-- ==== Sys2Proof/Word.lean ====
section
/-!
DEFINITION. The word types of the Esp-radio streaming core.

The spec's notation is 00_scope.md rule R8: bit 0 is the least significant bit, `a ++ b` puts `a` in the high bits
(`BitVec.append` does the same), and a value is an unsigned natural of its width unless a rule says "signed".
-/

namespace Sys2Proof

/-- One byte: a transfer on the device bus (R167), a byte of the store (R39), a register address (R181). -/
abbrev Byte := BitVec 8

/-- 16 bits: a device register, an extended address, a word of a patch (R60, R105). -/
abbrev Half := BitVec 16

/-- 32 bits: the operand field of a command word and the value of a response word (R91, R94). -/
abbrev Word := BitVec 32

/-- One nibble of the tone setting (R28). -/
abbrev Nibble := BitVec 4

/-- 40 bits: a command word `op ++ arg` or a response word `status ++ value` (R91, R94). -/
abbrev CommandWord := BitVec 40

/-- A message of the host port as the bytes that travel, first byte first (R90). -/
abbrev Message := List Byte

end Sys2Proof
end

