-- ==== Sys2Proof/Config.lean ====
section
/-!
DEFINITION. What an implementation fixes: the literals the document settles, the record `Cfg` of the parameters that rules
read (00_scope.md rule R6) with the constraints of R7, the open parameters that no rule reads, and the values nothing fixes
(opaque constants).

The machine's `State` carries one `Cfg`, so that a statement about every state is a statement about every `Cfg`
(notes/assumptions/1.md). No step writes it.
-/

namespace Sys2Proof

namespace Config

/-! The fixed rows of R6's table. -/

/-- Bytes per chunk: "fixed-size (32-byte) byte block". -/
def chunkSize : Nat := 32
/-- Control-frame opcode of a register write (R100). -/
def opWrite : Byte := 0x02
/-- Control-frame opcode of a register read (R100). -/
def opRead : Byte := 0x03
/-- Device data register of the WRAM pair (R103). -/
def regWramData : Byte := 0x06
/-- Device address register of the WRAM pair (R103). -/
def regWramAddr : Byte := 0x07
/-- Step of the fast self-test sweep (R190). -/
def deltaFast : Nat := 3
/-- Step of the slow self-test sweep (R190). -/
def deltaSlow : Nat := 300
/-- Mismatches that abort the self-test (R190). -/
def mismatchLimit : Nat := 20
/-- Largest volume operand (R247). -/
def volMax : Nat := 100
/-- Largest balance magnitude (R248). -/
def balMax : Nat := 100
/-- Register byte of level 0 (R244). -/
def volSilent : Nat := 0xFE

/-! The rows of R6's table that are open and that no rule reads: timing, electrical levels, and the store's own transport,
which is out of scope (R5, R63, R160, R330). They have no value, and no definition of this package uses them. -/

/-- `T_RESET_HOLD`. -/
opaque tResetHold : Nat
/-- `T_RESET_SETTLE`. -/
opaque tResetSettle : Nat
/-- `BUS_HZ_LOW`. -/
opaque busHzLow : Nat
/-- `BUS_HZ_HIGH`. -/
opaque busHzHigh : Nat
/-- `SEL_ACTIVE_LEVEL`. -/
opaque selActiveLevel : Bool
/-- `BUS_CLOCK_MODE`: clock polarity and phase. -/
opaque busClockMode : Bool × Bool
/-- `STORE_OP_READ`. -/
opaque storeOpRead : Byte
/-- `STORE_OP_WRITE`. -/
opaque storeOpWrite : Byte
/-- `STORE_ADDR_BYTES`. -/
opaque storeAddrBytes : Nat

/-! Free values: nothing can evaluate them or prove a value of them. -/

/-- What the `n`-th sample of the ready input reads, where `State.pollScript` holds no answer any more: a draw of the device
"under no law this spec states" (R13; 93_implementation_defined.md U5). -/
opaque pollDraw : Nat → Bool

/-- What the device sends in the `n`-th transfer, where `State.rxScript` holds no byte any more: a draw (R13; U5). -/
opaque busDraw : Nat → Byte

/-- What a byte of the backing store that nothing has written holds, by the number of hardware resets and the byte's address:
"unspecified: every byte may hold any value" (R43; U15). -/
opaque storeDraw : Nat → Nat → Byte

/-- What a 32-bit response value holds where a rule zero-extends a number that needs more than 32 bits, which R25 does not
settle (notes/assumptions/8.md). -/
opaque wideDraw : Nat → Word

end Config

/-- The configuration record of R6: the parameters that rules read. -/
structure Cfg where
  /-- `CAPACITY`: chunks in the ring. -/
  capacity : Nat
  /-- `SWEEP_END`: the self-test samples `i` while `i < SWEEP_END`. -/
  sweepEnd : Nat
  /-- `SUBCHUNK_MAX`: largest burst between two ready waits in data mode. -/
  subchunkMax : Nat
  /-- `WAIT_BOUND`: largest number of ready polls in one wait; `none` is unbounded. -/
  waitBound : Option Nat
  /-- `RD_DUMMY`: byte driven out while a read clocks data in. -/
  rdDummy : Byte
  /-- `REG_MODE`. -/
  regMode : Byte
  /-- `REG_STATUS`. -/
  regStatus : Byte
  /-- `REG_TONE`. -/
  regTone : Byte
  /-- `REG_CLOCK`. -/
  regClock : Byte
  /-- `REG_TIME`. -/
  regTime : Byte
  /-- `REG_SRATE`. -/
  regSrate : Byte
  /-- `REG_VOL`. -/
  regVol : Byte
  /-- `REG_TEST`. -/
  regTest : Byte
  /-- `CANCEL_MASK`. -/
  cancelMask : Half
  /-- `MODE_CANCEL_VALUE`. -/
  modeCancelValue : Half
  /-- `MODE_INIT`. -/
  modeInit : Half
  /-- `SRATE_INIT`. -/
  srateInit : Half
  /-- `CLOCK_INIT`. -/
  clockInit : Half
  /-- `FILL_ADDR`. -/
  fillAddr : Half
  /-- `RATE_CELL`. -/
  rateCell : Half
  /-- `CLOCKREF_CELL`. -/
  clockrefCell : Half
  /-- `CLOCKREF_INVALID`. -/
  clockrefInvalid : Half
  /-- `N_START_FILL`, 0..65535. -/
  nStartFill : Nat
  /-- `N_STOP_BIG`, 0..65535. -/
  nStopBig : Nat
  /-- `N_STOP_SMALL`, 0..65535. -/
  nStopSmall : Nat
  /-- `STOP_BUDGET`. -/
  stopBudget : Nat
  deriving DecidableEq, Repr

/-- The defaults of R6's table. Those the spec marks `[from general knowledge, not in source]` are listed in
notes/assumptions/2.md. -/
def Cfg.default : Cfg where
  capacity := 4096
  sweepEnd := 0x10000
  subchunkMax := 32
  waitBound := none
  rdDummy := 0xFF
  regMode := 0x00
  regStatus := 0x01
  regTone := 0x02
  regClock := 0x03
  regTime := 0x04
  regSrate := 0x05
  regVol := 0x0B
  regTest := 0x0B
  cancelMask := 0x0008
  modeCancelValue := 0x0808
  modeInit := 0x4800
  srateInit := 0xAC45
  clockInit := 0x6000
  fillAddr := 0x1E06
  rateCell := 0x1E07
  clockrefCell := 0x5B1C
  clockrefInvalid := 0x0000
  nStartFill := 10
  nStopBig := 2052
  nStopSmall := 32
  stopBudget := 200

/-- The constraints every rule assumes (R7), with the ranges R6's table gives. That the registers and masks fit their widths
is in their types; that the store has `CAPACITY × CHUNK` bytes is in `Machine.storeSize`. -/
def Cfg.wf (c : Cfg) : Bool :=
  decide (1 ≤ c.capacity) && decide (1 ≤ c.subchunkMax) && decide (c.cancelMask ≠ 0) &&
  decide (c.modeCancelValue &&& c.cancelMask = c.cancelMask) && decide (c.sweepEnd ≤ 0x10000) &&
  decide (c.waitBound ≠ some 0) && decide (c.nStartFill ≤ 65535) && decide (c.nStopBig ≤ 65535) &&
  decide (c.nStopSmall ≤ 65535)

end Sys2Proof
end

