-- ==== Sys2Proof/Syntax.lean ====
section
/-!
DEFINITION. The 25 commands of spec/opcode_table.json (30_encoding.md rule R96), one constructor per row, with the operands
of each row's format (R92) and the payload its message carries (R93).

The operand `n` of PLAY_CHUNK and LOAD_PATCH is the length of the payload (R93, R99), so it is not a second field here.
-/

namespace Sys2Proof

/-- One legal command message, taken apart. A field has the width the format gives it, so that no field can hold more than
its bits; the three payload lengths that a type does not fix are checked by `Instr.wellFormed`. -/
inductive Instr where
  /-- 0x01 GET_REG, format B: the number of an internal register (R270). -/
  | getReg (k : Byte)
  /-- 0x10 RB_RESET, format Z (R131). -/
  | rbReset
  /-- 0x11 RB_SPACE, format Z (R132). -/
  | rbSpace
  /-- 0x12 RB_AVAIL, format Z (R133). -/
  | rbAvail
  /-- 0x13 RB_FREE, format Z (R134). -/
  | rbFree
  /-- 0x14 RB_WRITE, format Z with a payload of one 32-byte chunk, byte 0 first (R136). -/
  | rbWrite (chunk : List Byte)
  /-- 0x15 RB_READ, format Z (R138). -/
  | rbRead
  /-- 0x20 REG_READ, format A: an 8-bit register address (R183). -/
  | regRead (addr : Byte)
  /-- 0x21 REG_WRITE, format AV (R184). -/
  | regWrite (addr : Byte) (value : Half)
  /-- 0x22 WRAM_READ, format X: a 16-bit extended address (R187). -/
  | wramRead (ext : Half)
  /-- 0x23 WRAM_WRITE, format XV (R188). -/
  | wramWrite (ext : Half) (value : Half)
  /-- 0x24 SELFTEST, format F: the one operand bit `fast` (R193). -/
  | selfTest (fast : Bool)
  /-- 0x30 PLAY_CHUNK, format N with a payload of `n` bytes (R203). -/
  | playChunk (data : List Byte)
  /-- 0x31 SEND_FILL, format N: a count, no payload (R205). -/
  | sendFill (n : Half)
  /-- 0x32 START_SONG, format Z (R207). -/
  | startSong
  /-- 0x33 STOP_SONG, format Z (R210). -/
  | stopSong
  /-- 0x40 LOAD_PATCH, format N with a payload of `n` 16-bit words (R224). -/
  | loadPatch (words : List Half)
  /-- 0x50 BEGIN, format Z (R236). -/
  | begin
  /-- 0x51 SET_VOLUME, format B, unsigned (R247). -/
  | setVolume (v : Byte)
  /-- 0x52 SET_BALANCE, format B, two's complement (R248). -/
  | setBalance (b : Byte)
  /-- 0x53 SET_TONE, format T: four nibbles, `n0` the highest (R252). -/
  | setTone (n0 n1 n2 n3 : Nibble)
  /-- 0x54 IS_CONNECTED, format Z (R255). -/
  | isConnected
  /-- 0x55 GET_TIME, format Z (R257). -/
  | getTime
  /-- 0x56 CLR_TIME, format Z (R258). -/
  | clrTime
  /-- 0x57 ADJ_RATE, format W: 32 bits, two's complement (R262). -/
  | adjRate (ppm : Word)
  deriving DecidableEq, Repr

end Sys2Proof
end

