-- ==== Sys2Proof/WellFormed.lean ====
section
/-!
DEFINITION. The checks on a command that its fields' types do not make: the payload lengths of 30_encoding.md rule R93.
-/

namespace Sys2Proof

/-- R93: the payload of RB_WRITE is 32 bytes, and the `n` of PLAY_CHUNK and of LOAD_PATCH is a 16-bit count of the bytes, or
words, of the payload. Every other command is well formed by its type. -/
def Instr.wellFormed : Instr → Bool
  | .rbWrite chunk => chunk.length == 32
  | .playChunk data => decide (data.length < 65536)
  | .loadPatch words => decide (words.length < 65536)
  | .getReg _ | .rbReset | .rbSpace | .rbAvail | .rbFree | .rbRead | .regRead _ | .regWrite _ _ | .wramRead _
  | .wramWrite _ _ | .selfTest _ | .sendFill _ | .startSong | .stopSong | .begin | .setVolume _ | .setBalance _
  | .setTone _ _ _ _ | .isConnected | .getTime | .clrTime | .adjRate _ => true

end Sys2Proof
end

