-- ==== Sys2Proof/Decode.lean ====
section
/-!
DEFINITION. The host side's encodings (30_encoding.md part A): byte order helpers, the opcode map of R96, the decoder of a
command message, which is total and rejects by name, the encoder, and the assembler's text (R99).

Decoding never reads state (R98). All words are big-endian on the host port (R69).
-/

namespace Sys2Proof

/-! ### Byte order (R67, R69) -/

/-- `v[15:8]`, the byte of a 16-bit value that travels first. -/
def hiByte (v : Half) : Byte := v.extractLsb' 8 8

/-- `v[7:0]`, the byte of a 16-bit value that travels second. -/
def loByte (v : Half) : Byte := v.extractLsb' 0 8

/-- The four bytes of a 32-bit word, highest first. -/
def wordBytes (v : Word) : List Byte :=
  [v.extractLsb' 24 8, v.extractLsb' 16 8, v.extractLsb' 8 8, v.extractLsb' 0 8]

/-- The 32-bit word that four bytes spell, highest first. -/
def wordOf (a3 a2 a1 a0 : Byte) : Word := a3 ++ a2 ++ a1 ++ a0

/-- 16-bit words as bytes, each high byte first (R93, R224). -/
def halvesBytes : List Half → List Byte
  | [] => []
  | w :: ws => hiByte w :: loByte w :: halvesBytes ws

/-- The 16-bit words that a list of bytes spells, each high byte first; a byte left over at the end is dropped, which no legal
payload has. -/
def bytesHalves : List Byte → List Half
  | hi :: lo :: rest => (hi ++ lo) :: bytesHalves rest
  | [_] => []
  | [] => []

/-! ### The opcode map (R96) -/

/-- One row of R96's table: `w` selects the row when `w & mask = pattern`. -/
structure Row where
  /-- The mnemonic. -/
  mnemonic : String
  /-- The opcode, `w[39:32]`. -/
  op : Byte
  /-- The table's `match` column. -/
  pattern : CommandWord
  /-- The table's `mask` column. -/
  mask : CommandWord
  deriving DecidableEq, Repr

/-- R96's table, row by row. -/
def opcodeTable : List Row := [
  ⟨"GET_REG", 0x01, 0x0100000000, 0xFFFFFFFF00⟩,
  ⟨"RB_RESET", 0x10, 0x1000000000, 0xFFFFFFFFFF⟩,
  ⟨"RB_SPACE", 0x11, 0x1100000000, 0xFFFFFFFFFF⟩,
  ⟨"RB_AVAIL", 0x12, 0x1200000000, 0xFFFFFFFFFF⟩,
  ⟨"RB_FREE", 0x13, 0x1300000000, 0xFFFFFFFFFF⟩,
  ⟨"RB_WRITE", 0x14, 0x1400000000, 0xFFFFFFFFFF⟩,
  ⟨"RB_READ", 0x15, 0x1500000000, 0xFFFFFFFFFF⟩,
  ⟨"REG_READ", 0x20, 0x2000000000, 0xFFFF00FFFF⟩,
  ⟨"REG_WRITE", 0x21, 0x2100000000, 0xFFFF000000⟩,
  ⟨"WRAM_READ", 0x22, 0x2200000000, 0xFF0000FFFF⟩,
  ⟨"WRAM_WRITE", 0x23, 0x2300000000, 0xFF00000000⟩,
  ⟨"SELFTEST", 0x24, 0x2400000000, 0xFFFFFFFFFE⟩,
  ⟨"PLAY_CHUNK", 0x30, 0x3000000000, 0xFFFFFF0000⟩,
  ⟨"SEND_FILL", 0x31, 0x3100000000, 0xFFFFFF0000⟩,
  ⟨"START_SONG", 0x32, 0x3200000000, 0xFFFFFFFFFF⟩,
  ⟨"STOP_SONG", 0x33, 0x3300000000, 0xFFFFFFFFFF⟩,
  ⟨"LOAD_PATCH", 0x40, 0x4000000000, 0xFFFFFF0000⟩,
  ⟨"BEGIN", 0x50, 0x5000000000, 0xFFFFFFFFFF⟩,
  ⟨"SET_VOLUME", 0x51, 0x5100000000, 0xFFFFFFFF00⟩,
  ⟨"SET_BALANCE", 0x52, 0x5200000000, 0xFFFFFFFF00⟩,
  ⟨"SET_TONE", 0x53, 0x5300000000, 0xFFFFFF0000⟩,
  ⟨"IS_CONNECTED", 0x54, 0x5400000000, 0xFFFFFFFFFF⟩,
  ⟨"GET_TIME", 0x55, 0x5500000000, 0xFFFFFFFFFF⟩,
  ⟨"CLR_TIME", 0x56, 0x5600000000, 0xFFFFFFFFFF⟩,
  ⟨"ADJ_RATE", 0x57, 0x5700000000, 0xFF00000000⟩]

/-- The payload length of a command message in bytes, from the opcode and `arg[15:0]` alone (R93). -/
def payloadLength (op : Byte) (n : Half) : Nat :=
  match op.toNat with
  | 0x14 => Config.chunkSize
  | 0x30 => n.toNat
  | 0x40 => 2 * n.toNat
  | _ => 0

/-! ### The decoder (R91 to R93, R97) -/

/-- Why a message spells no command (R97). Every one of them is answered with the status `IllegalCommand` and value 0. -/
inductive DecodeError where
  /-- The message has no whole command word: fewer than 5 bytes (DEDUCED, notes/assumptions/7.md). -/
  | noCommandWord
  /-- R97 (a): `op` is none of the 25 opcodes. -/
  | unknownOpcode (op : Byte)
  /-- R97 (b): a reserved bit of `arg` is 1. -/
  | reservedBits
  /-- R97 (c): the payload length is not the one R93 gives. -/
  | payloadLength
  deriving DecidableEq, Repr

/-- What a decoding step answers. -/
abbrev Decoded := Except DecodeError Instr

/-- The two checks of R97 (b) and (c) around the command that the operands spell. -/
def checked (reservedClear : Bool) (payload : List Byte) (length : Nat) (i : Instr) : Decoded :=
  if reservedClear = false then .error .reservedBits
  else if payload.length ≠ length then .error .payloadLength
  else .ok i

/-- The operand formats of R92, over the bytes `arg[31:24]`, `arg[23:16]`, `arg[15:8]`, `arg[7:0]`, and the payload lengths
of R93, opcode by opcode in the order of R96's table. -/
def decodeBody (op a3 a2 a1 a0 : Byte) (payload : List Byte) : Decoded :=
  match op.toNat with
  | 0x01 => checked (a3 == 0 && a2 == 0 && a1 == 0) payload 0 (.getReg a0)
  | 0x10 => checked (wordOf a3 a2 a1 a0 == 0) payload 0 .rbReset
  | 0x11 => checked (wordOf a3 a2 a1 a0 == 0) payload 0 .rbSpace
  | 0x12 => checked (wordOf a3 a2 a1 a0 == 0) payload 0 .rbAvail
  | 0x13 => checked (wordOf a3 a2 a1 a0 == 0) payload 0 .rbFree
  | 0x14 => checked (wordOf a3 a2 a1 a0 == 0) payload Config.chunkSize (.rbWrite payload)
  | 0x15 => checked (wordOf a3 a2 a1 a0 == 0) payload 0 .rbRead
  | 0x20 => checked (a3 == 0 && a1 == 0 && a0 == 0) payload 0 (.regRead a2)
  | 0x21 => checked (a3 == 0) payload 0 (.regWrite a2 (a1 ++ a0))
  | 0x22 => checked (a1 == 0 && a0 == 0) payload 0 (.wramRead (a3 ++ a2))
  | 0x23 => checked true payload 0 (.wramWrite (a3 ++ a2) (a1 ++ a0))
  | 0x24 => checked (a3 == 0 && a2 == 0 && a1 == 0 && (a0 >>> 1) == 0) payload 0 (.selfTest (a0.getLsbD 0))
  | 0x30 => checked (a3 == 0 && a2 == 0) payload (a1 ++ a0).toNat (.playChunk payload)
  | 0x31 => checked (a3 == 0 && a2 == 0) payload 0 (.sendFill (a1 ++ a0))
  | 0x32 => checked (wordOf a3 a2 a1 a0 == 0) payload 0 .startSong
  | 0x33 => checked (wordOf a3 a2 a1 a0 == 0) payload 0 .stopSong
  | 0x40 => checked (a3 == 0 && a2 == 0) payload (2 * (a1 ++ a0).toNat) (.loadPatch (bytesHalves payload))
  | 0x50 => checked (wordOf a3 a2 a1 a0 == 0) payload 0 .begin
  | 0x51 => checked (a3 == 0 && a2 == 0 && a1 == 0) payload 0 (.setVolume a0)
  | 0x52 => checked (a3 == 0 && a2 == 0 && a1 == 0) payload 0 (.setBalance a0)
  | 0x53 => checked (a3 == 0 && a2 == 0) payload 0
      (.setTone (a1.extractLsb' 4 4) (a1.extractLsb' 0 4) (a0.extractLsb' 4 4) (a0.extractLsb' 0 4))
  | 0x54 => checked (wordOf a3 a2 a1 a0 == 0) payload 0 .isConnected
  | 0x55 => checked (wordOf a3 a2 a1 a0 == 0) payload 0 .getTime
  | 0x56 => checked (wordOf a3 a2 a1 a0 == 0) payload 0 .clrTime
  | 0x57 => checked true payload 0 (.adjRate (wordOf a3 a2 a1 a0))
  | _ => .error (.unknownOpcode op)

/-- The decoder of a command message: one 40-bit command word, highest byte first, and the payload the port marked the end of
(R90, R91). -/
def decode : Message → Decoded
  | op :: a3 :: a2 :: a1 :: a0 :: payload => decodeBody op a3 a2 a1 a0 payload
  | _ => .error .noCommandWord

/-! ### The encoder, from the same tables -/

/-- The row of R96 that a command belongs to, by its opcode. -/
def Instr.opcode : Instr → Byte
  | .getReg _ => 0x01
  | .rbReset => 0x10
  | .rbSpace => 0x11
  | .rbAvail => 0x12
  | .rbFree => 0x13
  | .rbWrite _ => 0x14
  | .rbRead => 0x15
  | .regRead _ => 0x20
  | .regWrite _ _ => 0x21
  | .wramRead _ => 0x22
  | .wramWrite _ _ => 0x23
  | .selfTest _ => 0x24
  | .playChunk _ => 0x30
  | .sendFill _ => 0x31
  | .startSong => 0x32
  | .stopSong => 0x33
  | .loadPatch _ => 0x40
  | .begin => 0x50
  | .setVolume _ => 0x51
  | .setBalance _ => 0x52
  | .setTone _ _ _ _ => 0x53
  | .isConnected => 0x54
  | .getTime => 0x55
  | .clrTime => 0x56
  | .adjRate _ => 0x57

/-- The operand field `arg` of a command, by the formats of R92, as its bits from 31 down to 0. -/
def Instr.arg : Instr → Word
  | .getReg b | .setVolume b | .setBalance b => wordOf 0 0 0 b
  | .regRead addr => wordOf 0 addr 0 0
  | .regWrite addr value => wordOf 0 addr (hiByte value) (loByte value)
  | .wramRead ext => wordOf (hiByte ext) (loByte ext) 0 0
  | .wramWrite ext value => wordOf (hiByte ext) (loByte ext) (hiByte value) (loByte value)
  | .selfTest fast => wordOf 0 0 0 (if fast then 1 else 0)
  | .playChunk data => BitVec.ofNat 32 data.length
  | .sendFill n => wordOf 0 0 (hiByte n) (loByte n)
  | .loadPatch words => BitVec.ofNat 32 words.length
  | .setTone n0 n1 n2 n3 => wordOf 0 0 (n0 ++ n1) (n2 ++ n3)
  | .adjRate ppm => ppm
  | .rbReset | .rbSpace | .rbAvail | .rbFree | .rbWrite _ | .rbRead | .startSong | .stopSong | .begin | .isConnected
  | .getTime | .clrTime => 0

/-- The payload of a command's message (R93). -/
def Instr.payload : Instr → List Byte
  | .rbWrite chunk => chunk
  | .playChunk data => data
  | .loadPatch words => halvesBytes words
  | .getReg _ | .rbReset | .rbSpace | .rbAvail | .rbFree | .rbRead | .regRead _ | .regWrite _ _ | .wramRead _
  | .wramWrite _ _ | .selfTest _ | .sendFill _ | .startSong | .stopSong | .begin | .setVolume _ | .setBalance _
  | .setTone _ _ _ _ | .isConnected | .getTime | .clrTime | .adjRate _ => []

/-- The message of a command: its command word, highest byte first, and its payload (R90, R91). -/
def encode (i : Instr) : Message := i.opcode :: (wordBytes i.arg ++ i.payload)

/-- The 40-bit command word of a command (R91). -/
def Instr.commandWord (i : Instr) : CommandWord := i.opcode ++ i.arg

/-! ### Words numbered as the opcode table numbers them -/

/-- The low `k` bytes of a number, the lowest first. -/
def lowBytes : Nat → Nat → List Byte
  | 0, _ => []
  | k + 1, v => BitVec.ofNat 8 v :: lowBytes k (v / 256)

/-- The message whose command word is the low 40 bits of `w` and whose payload bytes are the bits above, 8 at a time; bits at
or above `nbits` are 0, and the payload is as long as R93 makes it. -/
def tableMessage (nbits w : Nat) : Message :=
  let v := w % 2 ^ nbits
  let op := BitVec.ofNat 8 (v / 0x100000000)
  op :: (wordBytes (BitVec.ofNat 32 v) ++ lowBytes (payloadLength op (BitVec.ofNat 16 v)) (v / 0x10000000000))

/-- The instruction the decoder reads from a word of the opcode table. -/
def decodeTableWord (nbits w : Nat) : Option Instr :=
  match decode (tableMessage nbits w) with
  | .ok i => some i
  | .error _ => none

/-! ### The assembler's text (R99) -/

/-- The mnemonic of R96. -/
def Instr.mnemonic : Instr → String
  | .getReg _ => "GET_REG"
  | .rbReset => "RB_RESET"
  | .rbSpace => "RB_SPACE"
  | .rbAvail => "RB_AVAIL"
  | .rbFree => "RB_FREE"
  | .rbWrite _ => "RB_WRITE"
  | .rbRead => "RB_READ"
  | .regRead _ => "REG_READ"
  | .regWrite _ _ => "REG_WRITE"
  | .wramRead _ => "WRAM_READ"
  | .wramWrite _ _ => "WRAM_WRITE"
  | .selfTest _ => "SELFTEST"
  | .playChunk _ => "PLAY_CHUNK"
  | .sendFill _ => "SEND_FILL"
  | .startSong => "START_SONG"
  | .stopSong => "STOP_SONG"
  | .loadPatch _ => "LOAD_PATCH"
  | .begin => "BEGIN"
  | .setVolume _ => "SET_VOLUME"
  | .setBalance _ => "SET_BALANCE"
  | .setTone _ _ _ _ => "SET_TONE"
  | .isConnected => "IS_CONNECTED"
  | .getTime => "GET_TIME"
  | .clrTime => "CLR_TIME"
  | .adjRate _ => "ADJ_RATE"

/-- The row of R96's table that has a command's opcode and mnemonic. -/
def Instr.row (i : Instr) : Option Row :=
  opcodeTable.find? fun r => r.op == i.opcode && r.mnemonic == i.mnemonic

/-- The digits of a number in hexadecimal, the given number of them, capitals. -/
def hexDigits : Nat → Nat → List Char
  | 0, _ => []
  | k + 1, n => hexDigits k (n / 16) ++ ["0123456789ABCDEF".toList.getD (n % 16) '0']

/-- A byte payload in curly brackets (their characters by number, 123 and 125). -/
def asmBytes (bs : List Byte) : String :=
  String.ofList (Char.ofNat 123 :: ' ' :: bs.flatMap (fun b => hexDigits 2 b.toNat ++ [' ']) ++ [Char.ofNat 125])

/-- A word payload in square brackets. -/
def asmHalves (ws : List Half) : String :=
  String.ofList ('[' :: ' ' :: ws.flatMap (fun w => hexDigits 4 w.toNat ++ [' ']) ++ [']'])

/-- A command's operands in the textual form of R99. -/
def Instr.operandText : Instr → String
  | .getReg b | .setVolume b => toString b.toNat
  | .setBalance b => toString b.toInt
  | .regRead addr => "0x" ++ String.ofList (hexDigits 2 addr.toNat)
  | .regWrite addr value =>
      "0x" ++ String.ofList (hexDigits 2 addr.toNat) ++ ", 0x" ++ String.ofList (hexDigits 4 value.toNat)
  | .wramRead ext => "0x" ++ String.ofList (hexDigits 4 ext.toNat)
  | .wramWrite ext value =>
      "0x" ++ String.ofList (hexDigits 4 ext.toNat) ++ ", 0x" ++ String.ofList (hexDigits 4 value.toNat)
  | .selfTest fast => if fast then "1" else "0"
  | .rbWrite chunk => asmBytes chunk
  | .playChunk data => asmBytes data
  | .loadPatch words => asmHalves words
  | .sendFill n => toString n.toNat
  | .setTone n0 n1 n2 n3 =>
      toString n0.toNat ++ ", " ++ toString n1.toNat ++ ", " ++ toString n2.toNat ++ ", " ++ toString n3.toNat
  | .adjRate ppm => toString ppm.toInt
  | .rbReset | .rbSpace | .rbAvail | .rbFree | .rbRead | .startSong | .stopSong | .begin | .isConnected | .getTime
  | .clrTime => ""

/-- A command in the textual form of R99: the mnemonic, then its operands. -/
def Instr.asm (i : Instr) : String :=
  if i.operandText = "" then i.mnemonic else i.mnemonic ++ " " ++ i.operandText

end Sys2Proof
end

