-- ==== Sys2Proof/Machine/State.lean ====
section
/-!
DEFINITION. The state of the machine as plain data (10_state.md), the reasons a step can stop, and the state after hardware
reset (R43).

Besides the state the spec names, `State` holds what a step function needs to be one function of the state: the parameters
(`cfg`), the rest of the pseudocode of the command in progress (`todo`), the two ports of the core as lists (the host's
messages in, the responses out; the device's answers in, the event trace out, R13), and the counters that index free values.
-/

namespace Sys2Proof.Machine

/-! ### The control state (10_state.md section 3) -/

/-- The two mutually exclusive transaction types, told apart by their select lines (R32, R38). -/
inductive Mode where
  /-- Control mode: register access; `sel_ctl` asserted. -/
  | ctrl
  /-- Data mode: bulk streaming; `sel_dat` asserted. -/
  | data
  deriving DecidableEq, Repr

/-- `BUSMODE` (R32). -/
inductive BusMode where
  /-- No transaction is open. -/
  | idle
  /-- A transaction of the given mode is open. -/
  | active (m : Mode)
  deriving DecidableEq, Repr

/-- `BUSSPD`, the bus transfer speed (R33). -/
inductive BusSpeed where
  /-- Before bring-up raises it. -/
  | low
  /-- After bring-up raised it. -/
  | high
  deriving DecidableEq, Repr

/-! ### What can be observed (R13) -/

/-- The event alphabet of R13. -/
inductive Event where
  /-- `OPEN(CTRL)`, `OPEN(DATA)`. -/
  | opened (m : Mode)
  /-- `CLOSE`. -/
  | closed
  /-- `POLL(r)`: one sample of the ready input. -/
  | poll (r : Bool)
  /-- `YIELD`: the yield strobe (R166). -/
  | yield
  /-- `XFER(out, in)`. -/
  | xfer (outByte inByte : Byte)
  /-- `SPEED(LOW)`, `SPEED(HIGH)`. -/
  | speed (v : BusSpeed)
  /-- `RESET_ASSERT`. -/
  | resetAssert
  /-- `RESET_RELEASE`. -/
  | resetRelease
  /-- `PULLUP_ON`. -/
  | pullupOn
  /-- `PULLUP_OFF`. -/
  | pullupOff
  /-- `ST_WR(addr, bytes)`. -/
  | storeWrite (addr : Nat) (bytes : List Byte)
  /-- `ST_RD(addr, bytes)`. -/
  | storeRead (addr : Nat) (bytes : List Byte)
  deriving DecidableEq, Repr

/-- The status of a response (R95). -/
inductive Status where
  /-- The command ran to its end. -/
  | ok
  /-- RB_WRITE with a full ring. -/
  | bufferFull
  /-- RB_READ with an empty ring. -/
  | bufferEmpty
  /-- A malformed LOAD_PATCH payload. -/
  | patchFormatError
  /-- The message spells no command. -/
  | illegalCommand
  /-- An operand outside its legal range. -/
  | argRange
  /-- STOP_SONG used its whole budget and the cancel bit never cleared. -/
  | stopIncomplete
  /-- A ready wait reached `WAIT_BOUND` polls. -/
  | busTimeout
  deriving DecidableEq, Repr

/-- One response message: a response word and its payload (R94). -/
structure Response where
  /-- The status, `rsp[39:32]`. -/
  status : Status
  /-- The value, `rsp[31:0]`. -/
  value : Word
  /-- The payload: the chunk for RB_READ with status `OK`, else empty. -/
  payload : List Byte
  deriving DecidableEq, Repr

/-! ### The command in progress

A command's rule gives it as pseudocode over the micro-operations of 41_hardware_bus.md. `Prim` is one line of pseudocode
that has no loop, `Task` a line or a loop: `State.todo` is the rest of the command that has begun, so that a command which
waits for ready can stand between two polls for ever (R171) and go on when the device is ready. -/

/-- What a command's last line returns (R12), where it is not known until the command has run. -/
inductive Answer where
  /-- `return v`. -/
  | value (v : Word)
  /-- `return zext_32(v)`, `v` the 16 bits read last. -/
  | readValue
  /-- `return (if s ≠ 0x0000 and s ≠ 0xFFFF then 1 else 0)`, `s` the 16 bits read last (R255). -/
  | connected
  /-- `return (if MISM = 0 then 1 else 0)` (R190, R193). -/
  | selfTest
  /-- `return STI` (R210). -/
  | iterations
  /-- `return writes` (R221). -/
  | writes
  /-- `return (absent << 2) | (highOK << 1) | lowOK` (R236). -/
  | bringUp
  /-- `return 0 with payload c` (R138). -/
  | chunk
  deriving DecidableEq, Repr

/-- One line of pseudocode without a loop. -/
inductive Prim where
  /-- `BeginControlTransaction()`, `BeginDataTransaction()` (R161, R162). -/
  | openBus (m : Mode)
  /-- `EndTransaction()` (R163). -/
  | closeBus
  /-- `WaitReady()` (R164, R165). -/
  | wait
  /-- The next iteration of a wait that has begun. -/
  | pollAgain
  /-- What follows a sample of a wait that read 0: the yield, and going on or giving up (R164, R165). -/
  | yield
  /-- `TransferByte(out)`, the byte received ignored (R167). -/
  | send (out : Byte)
  /-- `TransferByte` of the high byte of the 16 bits read last (ADJ_RATE's `RegWrite(REG_SRATE, cur)`, R262). -/
  | sendReadHi
  /-- `TransferByte` of the low byte of the 16 bits read last. -/
  | sendReadLo
  /-- `hi <- TransferByte(RD_DUMMY)` (R180). -/
  | recvHi
  /-- `lo <- TransferByte(RD_DUMMY)` (R180). -/
  | recvLo
  /-- `POS <- 0` (R201). -/
  | posInit
  /-- `POS <- POS + k` (R201). -/
  | posAdd (k : Nat)
  /-- `MISM <- 0; SWI <- 0` (R190). -/
  | sweepInit
  /-- `r1 <-` the 16 bits read last (R190). -/
  | keepFirst
  /-- The comparison of one sample of the self-test and `SWI <- SWI + delta` (R190). -/
  | tally (t : Half) (delta : Nat)
  /-- `STI <- 0` (R210). -/
  | stiInit
  /-- `S.MODEMIR <-` the 16 bits read last (R210). -/
  | mirror
  /-- `PP <- 0; writes <- 0` (R221). -/
  | patchInit
  /-- `writes <- writes + 1` (R221). -/
  | countWrite
  /-- The first assignments of BEGIN (R236, R45). -/
  | createPlayback
  /-- `SetPullup(p)` (R175). -/
  | setPullup (p : Bool)
  /-- `SetSpeed(s)` (R174). -/
  | setSpeed (v : BusSpeed)
  /-- The first event of `ResetPulse()` (R172). -/
  | resetAssert
  /-- The second event of `ResetPulse()` (R172). -/
  | resetRelease
  /-- `r <- SampleReady()` and BEGIN's `absent` (R173, R236). -/
  | sampleReady
  /-- `lowOK` from the low-speed self-test, 0 where it was skipped (R236). -/
  | judgeLow
  /-- `highOK` from the high-speed self-test, and `HSFAIL` (R236). -/
  | judgeHigh
  /-- `S.FILL <- x[7:0]`, `x` the 16 bits read last (R240). -/
  | keepFill
  /-- `highOK <- 0; S.DEGRADED <- 1` (R241). -/
  | degrade
  /-- `S.READY <- 1` (R236). -/
  | becomeReady
  /-- `MemWrite(S.WRI × 32, 32, c)` (R136). -/
  | storeChunk (c : List Byte)
  /-- `S.WRI <- next(S.WRI); S.CNT <- S.CNT + 1` (R136). -/
  | advanceWrite
  /-- `c <- MemRead(S.RDI × 32, 32)` (R138). -/
  | loadChunk
  /-- `S.RDI <- next(S.RDI); S.CNT <- S.CNT - 1` (R138). -/
  | advanceRead
  /-- `S.RDI <- 0; S.WRI <- 0; S.CNT <- 0` (R131). -/
  | clearRing
  /-- `return`: the response with status `OK`. -/
  | answer (a : Answer)
  /-- `raise <Status>(info)` (R12, R287). -/
  | raise (status : Status) (info : Word)
  deriving DecidableEq, Repr

/-- Where a streaming transfer takes its bytes from (R204). -/
inductive Source where
  /-- `p ↦ d[p]`, a payload. -/
  | bytes (d : List Byte)
  /-- `p ↦ S.FILL`, `n` times. -/
  | filler (n : Nat)
  deriving DecidableEq, Repr

/-- One line of pseudocode, or a loop with an upper bound `n` on the iterations still to come. -/
inductive Task where
  /-- A line without a loop. -/
  | prim (p : Prim)
  /-- `while POS < len` of `Stream` (R201). -/
  | bursts (n : Nat) (src : Source)
  /-- `while SWI < SWEEP_END and MISM < 20` of `SelfTest` (R190). -/
  | sweep (n delta : Nat)
  /-- BEGIN: the pull-up, or the low-speed self-test (R238). -/
  | lowTest
  /-- BEGIN: what follows on `lowOK` (R239 to R241). -/
  | bringUpChain
  /-- `while STI < STOP_BUDGET` of STOP_SONG (R210). -/
  | stopLoop (n : Nat)
  /-- The test of the cancel bit in one iteration of STOP_SONG (R210). -/
  | cancelTest (n : Nat)
  /-- The register writes of one patch record, value by value (R221). -/
  | writes (addr : Byte) (values : List Half)
  /-- `while PP < n` of `LoadPatch`, over the words from `PP` on (R221). -/
  | records (n : Nat) (words : List Half)
  deriving DecidableEq, Repr

/-- The sequencing state that lives inside one command and is dead when it ends (R34), with the local variables of the
pseudocode that one line sets and a later one reads. No command reads one that it has not set. -/
structure Sequencer where
  /-- `PP`, the word pointer of LOAD_PATCH. -/
  pp : Nat
  /-- `SWI`, the sweep value of the self-test; it does not wrap at 16 bits. -/
  swi : Nat
  /-- `MISM`, the mismatch count of the self-test. -/
  mism : Nat
  /-- `STI`, the iteration counter of STOP_SONG. -/
  sti : Nat
  /-- `POS`, the byte position of a streaming transfer. -/
  pos : Nat
  /-- `POLLS`, the poll count of one wait: the samples of it that read 0. -/
  polls : Nat
  /-- `hi ++ lo` of `RegRead`: the 16 bits read last. -/
  readValue : Half
  /-- `r1` of `SelfTest`. -/
  firstRead : Half
  /-- `writes` of `LoadPatch`. -/
  writes : Nat
  /-- `absent` of BEGIN. -/
  absent : Bool
  /-- `lowOK` of BEGIN. -/
  lowOK : Bool
  /-- `highOK` of BEGIN. -/
  highOK : Bool
  /-- `c` of RB_READ. -/
  chunk : List Byte
  deriving DecidableEq, Repr

/-! ### The state -/

/-- The whole state of the machine. -/
structure State where
  /-- The parameters (R6); no step writes them. -/
  cfg : Cfg
  /-- `RDI`, the read index (R21). -/
  rdi : Nat
  /-- `WRI`, the write index (R22). -/
  wri : Nat
  /-- `CNT`, the number of chunks stored and not yet read (R23). -/
  cnt : Nat
  /-- `STORE`, the backing store (R39): the bytes written since the last hardware reset, addresses strictly rising. -/
  store : List Host.Cell
  /-- `VOL`, the current volume, 0..100 (R26). -/
  vol : Nat
  /-- `BAL`, the current balance, -100..100 (R27). -/
  bal : Int
  /-- `TONE`, four nibbles, the first highest (R28). -/
  tone : Half
  /-- `FILL`, the end-of-stream fill byte (R29). -/
  fill : Byte
  /-- `MODEMIR`, the mode mirror (R30). -/
  modeMir : Half
  /-- `BUSMODE` (R32). -/
  busMode : BusMode
  /-- `BUSSPD` (R33). -/
  busSpd : BusSpeed
  /-- `RDYPULL`, the pull-up enable of the ready input (R35). -/
  rdyPull : Bool
  /-- `READY` (R36). -/
  ready : Bool
  /-- `DEGRADED` (R37). -/
  degraded : Bool
  /-- `HSFAIL` (R37). -/
  hsFail : Bool
  /-- The reset pulse is in progress: between its two events both select lines are asserted (R38, R172). -/
  pulse : Bool
  /-- A command is in progress: begun and not yet answered (R3). -/
  busy : Bool
  /-- The rest of the command in progress. -/
  todo : List Task
  /-- The transient sequencing state (R34). -/
  seq : Sequencer
  /-- The host's input: the messages it presents, in order, each after the response to the one before (R14). -/
  inbox : List Message
  /-- The host's input: when it asserts the hardware reset (R311). Each number counts the micro-operations from the reset
  before, or from now, to the next: the lines that the core runs, the taking of a message, and the steps in which it idles. -/
  resetScript : List Nat
  /-- The device's input: its answers to the next polls, as far as the state fixes them; after them come draws. -/
  pollScript : List Bool
  /-- Polls made so far: the index of the next draw. -/
  polled : Nat
  /-- The device's input: the bytes it sends in the next transfers, as far as the state fixes them; after them come draws. -/
  rxScript : List Byte
  /-- Transfers made so far: the index of the next draw. -/
  clocked : Nat
  /-- Hardware resets so far: an index of the draws for the store's content. -/
  resets : Nat
  /-- The event trace (R13), newest first. -/
  trace : List Event
  /-- The responses (R13), newest first. -/
  responses : List Response
  deriving DecidableEq, Repr

/-- Why a step stops with a fault. -/
inductive Fault where
  /-- RB_WRITE or RB_READ would access the store at an address that does not exist, because `WRI` or `RDI` is not below
  `CAPACITY`, which R21 and R22 exclude. Raised by `execRbWrite` and `execRbRead`; safe: no state a run from reset reaches
  raises it, and the machine stops. -/
  | storeAddress
  deriving DecidableEq, Repr

/-- Why a step gives an instruction no meaning. -/
inductive Refusal where
  /-- The command has no meaning yet. Raised by an arm of `exec`; safe: the machine stops. No arm raises it now. -/
  | notModelled (mnemonic : String)
  deriving DecidableEq, Repr

/-- The transient state after hardware reset: dead outside a command (R43), so every value is the model's own. -/
def Sequencer.zero : Sequencer where
  pp := 0
  swi := 0
  mism := 0
  sti := 0
  pos := 0
  polls := 0
  readValue := 0
  firstRead := 0
  writes := 0
  absent := false
  lowOK := false
  highOK := false
  chunk := []

/-- The machine right after hardware reset (R43), with the default parameters, no host message presented, and no answer of the
device fixed. -/
def State.reset : State where
  cfg := Cfg.default
  rdi := 0
  wri := 0
  cnt := 0
  store := []
  vol := 0
  bal := 0
  tone := 0x0000
  fill := 0x00
  modeMir := 0x0000
  busMode := .idle
  busSpd := .low
  rdyPull := false
  ready := false
  degraded := false
  hsFail := false
  pulse := false
  busy := false
  todo := []
  seq := Sequencer.zero
  inbox := []
  resetScript := []
  pollScript := []
  polled := 0
  rxScript := []
  clocked := 0
  resets := 0
  trace := []
  responses := []

end Sys2Proof.Machine
end

