-- ==== Sys2Proof/Machine/Operands.lean ====
section
/-!
DEFINITION. How operands and values are read, extended, split and assembled (30_encoding.md part B, R109; 40_ringbuffer.md
R130; 45_playback_controller.md R244, R245): every computation on a value that a command makes.
-/

namespace Sys2Proof.Machine

/-! ### Naturals as 32-bit values -/

/-- `zext_32` of a natural (R25, R94). A number that needs more than 32 bits has no value the spec states: a free value
(notes/assumptions/8.md). -/
def zext32 (n : Nat) : Word := if n < 2 ^ 32 then BitVec.ofNat 32 n else Config.wideDraw n

/-- `zext_32` of a 16-bit value: a value read from the device is zero-extended, never sign-extended (R276). -/
def zextHalf (v : Half) : Word := v.setWidth 32

/-- `zext_32` of an 8-bit operand. -/
def zextByte (v : Byte) : Word := v.setWidth 32

/-- `sext_32` of the balance (R271). -/
def sextBalance (b : Int) : Word := BitVec.ofInt 32 b

/-- A condition as the value 1 or 0. -/
def boolValue (b : Bool) : Word := if b then 1 else 0

/-! ### The ring's index arithmetic (R21 to R25, R61, R130) -/

/-- `next(i) = (i + 1) mod CAPACITY` (R130). -/
def nextIndex (c : Cfg) (i : Nat) : Nat := (i + 1) % c.capacity

/-- The store address of chunk `k` (R61). -/
def chunkAddr (k : Nat) : Nat := k * Config.chunkSize

/-- Bytes of the backing store: `CAPACITY × 32` (R39). -/
def storeSize (c : Cfg) : Nat := c.capacity * Config.chunkSize

/-- `ceil(log2(n))`, 0 for `n ≤ 1`. -/
def ceilLog2 (n : Nat) : Nat := if n ≤ 1 then 0 else Nat.log2 (n - 1) + 1

/-- `IDXW`, the width of an index (R21). -/
def idxWidth (c : Cfg) : Nat := max 1 (ceilLog2 c.capacity)

/-- `CNTW`, the width of the count (R23). -/
def cntWidth (c : Cfg) : Nat := ceilLog2 (c.capacity + 1)

/-! ### Balance, volume, tone and rate operands -/

/-- The `b` of SET_BALANCE as an integer (R109). -/
def balanceOperand (b : Byte) : Int := b.toInt

/-- `ch(l) = 0xFE - floor(0xFE × l / 100)`, the register byte of a level (R244). -/
def channelByte (l : Nat) : Byte :=
  BitVec.ofNat 8 (Config.volSilent - Config.volSilent * l / Config.volMax)

/-- The left level: reduced by a positive balance, clamped at 0 (R245). -/
def leftLevel (vol : Nat) (bal : Int) : Nat := if 0 < bal then ((vol : Int) - bal).toNat else vol

/-- The right level: reduced by the magnitude of a negative balance, clamped at 0 (R245). -/
def rightLevel (vol : Nat) (bal : Int) : Nat := if bal < 0 then ((vol : Int) - bal.natAbs).toNat else vol

/-- `VolValue(vol, bal)`: the left byte in bits 15:8, the right byte in bits 7:0 (R107, R245). -/
def volValue (vol : Nat) (bal : Int) : Half :=
  channelByte (leftLevel vol bal) ++ channelByte (rightLevel vol bal)

/-- `n0 ++ n1 ++ n2 ++ n3` (R108). -/
def toneValue (n0 n1 n2 n3 : Nibble) : Half := n0 ++ n1 ++ n2 ++ n3

/-- `arg[15:0]` of ADJ_RATE (R70). -/
def ppmLow (ppm : Word) : Half := ppm.extractLsb' 0 16

/-- `arg[31:16]` of ADJ_RATE (R70). -/
def ppmHigh (ppm : Word) : Half := ppm.extractLsb' 16 16

/-! ### The control frame (R100) -/

/-- A write frame as the four bytes that cross the bus, first byte first. -/
def writeFrame (addr : Byte) (v : Half) : List Byte := [Config.opWrite, addr, hiByte v, loByte v]

/-- The two bytes of a read frame that go from the core to the device. -/
def readHeader (addr : Byte) : List Byte := [Config.opRead, addr]

/-! ### Streaming and patch operands -/

/-- The number of bytes a streaming transfer sends (R204). -/
def Source.length : Source → Nat
  | .bytes d => d.length
  | .filler n => n

/-- The `k` bytes at positions `pos .. pos + k - 1` of a streaming transfer, `fill` the fill byte (R204). -/
def Source.burst (src : Source) (fill : Byte) (pos k : Nat) : List Byte :=
  match src with
  | .bytes d => (d.drop pos).take k
  | .filler _ => List.replicate k fill

/-- `cw[15]`: the record is a run record (R105). -/
def isRun (cw : Half) : Bool := cw.msb

/-- `cw[14:0]`: the number of register writes of a record (R105). -/
def repeatCount (cw : Half) : Nat := (cw.extractLsb' 0 15).toNat

/-- The step of a self-test sweep (R190). -/
def sweepDelta (fast : Bool) : Nat := if fast then Config.deltaFast else Config.deltaSlow

/-! ### The response on the wire (R94, R95) -/

/-- The code of a status (R95). -/
def Status.code : Status → Byte
  | .ok => 0x00
  | .bufferFull => 0x01
  | .bufferEmpty => 0x02
  | .patchFormatError => 0x03
  | .illegalCommand => 0x04
  | .argRange => 0x05
  | .stopIncomplete => 0x06
  | .busTimeout => 0x07

/-- A response word, `status ++ value`, highest byte first, and its payload (R90, R94). -/
def Response.bytes (r : Response) : Message := r.status.code :: (wordBytes r.value ++ r.payload)

end Sys2Proof.Machine
end

