-- ==== Sys2Proof/Machine/Flags.lean ====
section
/-!
DEFINITION. The flags (10_state.md R31), the `STATUS` view (R40), the register numbers of GET_REG (46_system_commands.md
R271) and the output pins (R38, R160): all functions of state.
-/

namespace Sys2Proof.Machine

/-- `FULL = (S.CNT = CAPACITY)` (R31). -/
def State.full (s : State) : Bool := decide (s.cnt = s.cfg.capacity)

/-- `EMPTY = (S.CNT = 0)` (R31). -/
def State.empty (s : State) : Bool := decide (s.cnt = 0)

/-- `BUSSPD` as its bit: 0 is `LOW`, 1 is `HIGH` (R40). -/
def BusSpeed.bit : BusSpeed → Bool
  | .low => false
  | .high => true

/-- `STATUS`: bits 6 to 0 are `EMPTY`, `FULL`, `BUSSPD`, `RDYPULL`, `HSFAIL`, `DEGRADED`, `READY`; bits 31:7 zero (R40). -/
def State.status (s : State) : Word :=
  (0 : BitVec 25) ++ BitVec.ofBool s.empty ++ BitVec.ofBool s.full ++ BitVec.ofBool s.busSpd.bit ++
    BitVec.ofBool s.rdyPull ++ BitVec.ofBool s.hsFail ++ BitVec.ofBool s.degraded ++ BitVec.ofBool s.ready

/-- The value of internal register `k`, for `k` in `0..9` (R271). -/
def State.intReg (s : State) (k : Nat) : Word :=
  match k with
  | 0 => zext32 s.rdi
  | 1 => zext32 s.wri
  | 2 => zext32 s.cnt
  | 3 => zext32 s.vol
  | 4 => sextBalance s.bal
  | 5 => zextHalf s.tone
  | 6 => zextByte s.fill
  | 7 => zextHalf s.modeMir
  | 8 => s.status
  | _ => zext32 s.cfg.capacity

/-- The cancel bit of the device as the mode mirror shows it (R31): set? -/
def State.cancelSet (s : State) : Bool := decide (s.modeMir &&& s.cfg.cancelMask ≠ 0)

/-- The control select line: asserted exactly in control mode or during the reset pulse (R38). -/
def State.selCtl (s : State) : Bool := decide (s.busMode = .active .ctrl) || s.pulse

/-- The data select line: asserted exactly in data mode or during the reset pulse (R38). -/
def State.selDat (s : State) : Bool := decide (s.busMode = .active .data) || s.pulse

/-- The pull-up enable pin (R38). -/
def State.rdyPullPin (s : State) : Bool := s.rdyPull

end Sys2Proof.Machine
end

