-- ==== Sys2Proof/Machine/Ops.lean ====
section
/-!
DEFINITION. The named operations over the store, the ports and the registers, which every meaning is written in: the memory
(20_memory.md), the device's answers and the event trace (R13), the response and `raise` (R12, R287), the hardware reset
(R311), the sequencer that runs the lines of a command and puts them off while a wait is not answered, the micro-operations
of the HardwareBus (41_hardware_bus.md) and every line of pseudocode that has no loop.
-/

namespace Sys2Proof.Machine

/-! ### The backing store (R10, R39, R62) -/

/-- The store's contents as written: addresses strictly rising, only bytes that something has written. -/
abbrev Memory := List Host.Cell

/-- What an unlisted address holds at this level: no value, nothing has written it. -/
def Memory.unlisted : Option Byte := none

/-- The byte at an address, if something has written it. -/
def Memory.read (m : Memory) (a : Nat) : Option Byte :=
  match m with
  | [] => Memory.unlisted
  | (b, v) :: rest => if a = b then some v else Memory.read rest a

/-- Writes one byte, keeping the addresses strictly rising. -/
def Memory.write (m : Memory) (a : Nat) (v : Byte) : Memory :=
  match m with
  | [] => [(a, v)]
  | (b, w) :: rest =>
    if a < b then (a, v) :: (b, w) :: rest
    else if a = b then (a, v) :: rest
    else (b, w) :: Memory.write rest a v

/-- `MemWrite`: stores bytes at rising addresses from `a`, lowest address first (R10). -/
def Memory.writeBytes (m : Memory) (a : Nat) : List Byte → Memory
  | [] => m
  | v :: vs => Memory.writeBytes (Memory.write m a v) (a + 1) vs

/-- The canonical form: addresses strictly rising. No entry equals what an unlisted address reads as, because an entry is a
value and an unlisted address is none. -/
def Memory.wf : Memory → Bool
  | [] => true
  | [_] => true
  | (a, _) :: (b, w) :: rest => decide (a < b) && Memory.wf ((b, w) :: rest)

/-- One byte of the store as the core reads it: the last byte written there (R62), or, where nothing has written since the
last hardware reset, the free value of that byte (R43, U15). -/
def State.storeByte (s : State) (a : Nat) : Byte :=
  match Memory.read s.store a with
  | some v => v
  | none => Config.storeDraw s.resets a

/-- `MemRead(a, n)`: `n` bytes, lowest address first (R10). -/
def State.memRead (s : State) (a n : Nat) : List Byte := (List.range n).map fun k => s.storeByte (a + k)

/-! ### The event trace and the device's answers (R13) -/

/-- One more event. -/
def State.emit (s : State) (e : Event) : State := { s with trace := e :: s.trace }

/-- The event trace in the order of time. -/
def State.events (s : State) : List Event := s.trace.reverse

/-- The answer to the `k`-th poll from now, counted from 0. -/
def State.pollAt (s : State) (k : Nat) : Bool := (s.pollScript[k]?).getD (Config.pollDraw (s.polled + k))

/-- The byte the device sends in the `k`-th transfer from now, counted from 0. -/
def State.rxAt (s : State) (k : Nat) : Byte := (s.rxScript[k]?).getD (Config.busDraw (s.clocked + k))

/-- One sample of the ready input: event `POLL(r)`, and the answer is used up. What it read is `pollAt 0` of the state
before. -/
def State.samplePoll (s : State) : State :=
  { s with pollScript := s.pollScript.tail, polled := s.polled + 1, trace := .poll (s.pollAt 0) :: s.trace }

/-- `TransferByte(out)`: event `XFER(out, in)`, and the device's byte is used up (R167). What it received is `rxAt 0` of the
state before. -/
def State.transfer (s : State) (out : Byte) : State :=
  { s with rxScript := s.rxScript.tail, clocked := s.clocked + 1, trace := .xfer out (s.rxAt 0) :: s.trace }

/-! ### Ending a command: the response, `raise` and the hardware reset -/

/-- The core takes a command: it is in progress from now on (R3). -/
def State.accept (s : State) : State := { s with busy := true, todo := [] }

/-- Sends the one response of a command, after which the core is idle (R90, R288): the return from a command. -/
def State.respond (s : State) (status : Status) (v : Word) (payload : List Byte) : State :=
  { s with responses := ⟨status, v, payload⟩ :: s.responses, busy := false, todo := [] }

/-- `EndTransaction()` (R163). -/
def State.endTransaction (s : State) : State := { s with busMode := .idle, trace := .closed :: s.trace }

/-- `raise <Status>(info)`, the core's counterpart of taking an exception (R12, R280, R287): an open transaction is closed,
the command stops, and the response carries the status and the value with no payload. -/
def State.raise (s : State) (status : Status) (info : Word) : State :=
  (if s.busMode = .idle then s else s.endTransaction).respond status info []

/-- The hardware reset input (R310, R311): every element takes its value of R43, a command in progress ends without a
response and both select lines are deasserted, with no event; the store's content is unspecified again. The parameters and
the ports, which are not the core's state, stay. -/
def State.hardwareReset (s : State) : State :=
  { State.reset with
    cfg := s.cfg, inbox := s.inbox, resetScript := s.resetScript.tail, pollScript := s.pollScript, polled := s.polled,
    rxScript := s.rxScript, clocked := s.clocked, resets := s.resets + 1, trace := s.trace, responses := s.responses }

/-! ### The sequencer -/

/-- One micro-operation of an idle core, taking a message or idling: one less until the next hardware reset. -/
def State.tick (s : State) : State :=
  match s.resetScript with
  | [] => s
  | n :: rest => { s with resetScript := (n - 1) :: rest }

/-- Runs one line of a command, whose effect is `f` and whose name is `t`. A command that has ended (by `raise` or by a hardware
reset) runs no further line; a command that waits puts the line off, behind those it has put off already; and a hardware
reset that is due comes before the line. -/
def State.runAs (t : Task) (f : State → State) (s : State) : State :=
  match s.busy, s.todo with
  | false, _ => s
  | true, u :: us => { s with todo := (u :: us) ++ [t] }
  | true, [] =>
    match s.resetScript with
    | [] => f s
    | 0 :: _ => s.hardwareReset
    | (n + 1) :: rest => f { s with resetScript := n :: rest }

/-- A bounded wait gives up (R165): an open transaction is closed, then the command raises `BusTimeout`, a line each. -/
def State.giveUp (s : State) : State :=
  (if s.busMode = .idle then s else s.runAs (.prim .closeBus) State.endTransaction).runAs (.prim (.raise .busTimeout 0))
    (fun t => t.raise .busTimeout 0)

/-- What follows a sample of a wait that read 0: the core yields, and either gives up, where `WAIT_BOUND` samples of this wait
have read 0, or goes on waiting (R164, R165). -/
def State.yieldOnce (s : State) : State :=
  let t := { s.emit .yield with seq := { s.seq with polls := s.seq.polls + 1 } }
  match s.cfg.waitBound with
  | none => { t with todo := [.prim .pollAgain] }
  | some k => if k ≤ t.seq.polls then t.giveUp else { t with todo := [.prim .pollAgain] }

/-- One iteration of a ready wait (R164, R165): a sample of the ready input; one that reads 1 ends the wait, one that reads 0 is
followed by the yield, a line of its own. -/
def State.pollOnce (s : State) : State :=
  if s.pollAt 0 then s.samplePoll else s.samplePoll.runAs (.prim .yield) State.yieldOnce

/-! ### Effects of single lines -/

/-- The first assignments of BEGIN (R45, R236). -/
def State.createPlayback (s : State) : State :=
  { s with vol := 0, bal := 0, tone := 0, fill := 0, modeMir := 0, ready := false, degraded := false, hsFail := false }

/-- `SetPullup(p)`: an event only on a change (R175). -/
def State.setPullup (s : State) (p : Bool) : State :=
  { s with
    rdyPull := p
    trace := if p && !s.rdyPull then .pullupOn :: s.trace
             else if !p && s.rdyPull then .pullupOff :: s.trace else s.trace }

/-- The comparison that ends one sample of the self-test (R190): a mismatch is `t ≠ r1` or `r1 ≠ r2`. -/
def State.tally (s : State) (t : Half) (delta : Nat) : State :=
  let mismatch := decide (t ≠ s.seq.firstRead) || decide (s.seq.firstRead ≠ s.seq.readValue)
  { s with seq := { s.seq with mism := if mismatch then s.seq.mism + 1 else s.seq.mism, swi := s.seq.swi + delta } }

/-- The value of BEGIN: bit 0 `lowOK`, bit 1 `highOK`, bit 2 `absent` (R236, R242). -/
def Sequencer.bringUpValue (q : Sequencer) : Word :=
  (0 : BitVec 29) ++ BitVec.ofBool q.absent ++ BitVec.ofBool q.highOK ++ BitVec.ofBool q.lowOK

/-- The `return` of a command. -/
def State.answer (s : State) : Answer → State
  | .value v => s.respond .ok v []
  | .readValue => s.respond .ok (zextHalf s.seq.readValue) []
  | .connected =>
      s.respond .ok (boolValue (decide (s.seq.readValue ≠ 0x0000) && decide (s.seq.readValue ≠ 0xFFFF))) []
  | .selfTest => s.respond .ok (boolValue (decide (s.seq.mism = 0))) []
  | .iterations => s.respond .ok (zext32 s.seq.sti) []
  | .writes => s.respond .ok (zext32 s.seq.writes) []
  | .bringUp => s.respond .ok s.seq.bringUpValue []
  | .chunk => s.respond .ok 0 s.seq.chunk

/-- The effect of each line that has no loop. -/
def Prim.run (p : Prim) (s : State) : State :=
  match p with
  | .openBus m => { s with busMode := .active m, trace := .opened m :: s.trace }
  | .closeBus => s.endTransaction
  | .wait => State.pollOnce { s with seq := { s.seq with polls := 0 } }
  | .pollAgain => s.pollOnce
  | .yield => s.yieldOnce
  | .send out => s.transfer out
  | .sendReadHi => s.transfer (hiByte s.seq.readValue)
  | .sendReadLo => s.transfer (loByte s.seq.readValue)
  | .recvHi =>
      { s.transfer s.cfg.rdDummy with seq := { s.seq with readValue := s.rxAt 0 ++ loByte s.seq.readValue } }
  | .recvLo =>
      { s.transfer s.cfg.rdDummy with seq := { s.seq with readValue := hiByte s.seq.readValue ++ s.rxAt 0 } }
  | .posInit => { s with seq := { s.seq with pos := 0 } }
  | .posAdd k => { s with seq := { s.seq with pos := s.seq.pos + k } }
  | .sweepInit => { s with seq := { s.seq with mism := 0, swi := 0 } }
  | .keepFirst => { s with seq := { s.seq with firstRead := s.seq.readValue } }
  | .tally t delta => s.tally t delta
  | .stiInit => { s with seq := { s.seq with sti := 0 } }
  | .mirror => { s with modeMir := s.seq.readValue }
  | .patchInit => { s with seq := { s.seq with pp := 0, writes := 0 } }
  | .countWrite => { s with seq := { s.seq with writes := s.seq.writes + 1 } }
  | .createPlayback => s.createPlayback
  | .setPullup p => s.setPullup p
  | .setSpeed v => { s with busSpd := v, trace := .speed v :: s.trace }
  | .resetAssert => { s with pulse := true, trace := .resetAssert :: s.trace }
  | .resetRelease => { s with pulse := false, trace := .resetRelease :: s.trace }
  | .sampleReady => { s.samplePoll with seq := { s.seq with absent := !s.pollAt 0 } }
  | .judgeLow => { s with seq := { s.seq with lowOK := !s.seq.absent && decide (s.seq.mism = 0) } }
  | .judgeHigh =>
      { s with hsFail := s.hsFail || decide (s.seq.mism ≠ 0), seq := { s.seq with highOK := decide (s.seq.mism = 0) } }
  | .keepFill => { s with fill := loByte s.seq.readValue }
  | .degrade => { s with degraded := true, seq := { s.seq with highOK := false } }
  | .becomeReady => { s with ready := true }
  | .storeChunk c =>
      { s with store := Memory.writeBytes s.store (chunkAddr s.wri) c
               trace := .storeWrite (chunkAddr s.wri) c :: s.trace }
  | .advanceWrite => { s with wri := nextIndex s.cfg s.wri, cnt := s.cnt + 1 }
  | .loadChunk =>
      { s with seq := { s.seq with chunk := s.memRead (chunkAddr s.rdi) Config.chunkSize }
               trace := .storeRead (chunkAddr s.rdi) (s.memRead (chunkAddr s.rdi) Config.chunkSize) :: s.trace }
  | .advanceRead => { s with rdi := nextIndex s.cfg s.rdi, cnt := s.cnt - 1 }
  | .clearRing => { s with rdi := 0, wri := 0, cnt := 0 }
  | .answer a => s.answer a
  | .raise status info => s.raise status info

/-- Runs one line without a loop. -/
def State.runPrim (s : State) (p : Prim) : State := s.runAs (.prim p) p.run

/-- Runs lines without a loop, in order. -/
def State.runPrims (s : State) (ps : List Prim) : State := ps.foldl State.runPrim s

/-! ### The register protocol's primitives (42_register_protocol.md) -/

/-- `RegWrite(a, v)` (R182). -/
def regWriteLines (addr : Byte) (v : Half) : List Prim :=
  [.openBus .ctrl, .wait] ++ (writeFrame addr v).map .send ++ [.wait, .closeBus]

/-- `RegRead(a)` (R180); what it reads is `seq.readValue` after it. -/
def regReadLines (addr : Byte) : List Prim :=
  [.openBus .ctrl, .wait] ++ (readHeader addr).map .send ++ [.recvHi, .recvLo, .wait, .closeBus]

/-- `RegWrite(a, v)` with `v` the 16 bits read last (R262). -/
def regWriteBackLines (addr : Byte) : List Prim :=
  [.openBus .ctrl, .wait, .send Config.opWrite, .send addr, .sendReadHi, .sendReadLo, .wait, .closeBus]

/-- `WramWrite(x, v)` (R185). -/
def wramWriteLines (ext v : Half) : List Prim :=
  regWriteLines Config.regWramAddr ext ++ regWriteLines Config.regWramData v

/-- `WramRead(x)` (R185). -/
def wramReadLines (ext : Half) : List Prim :=
  regWriteLines Config.regWramAddr ext ++ regReadLines Config.regWramData

end Sys2Proof.Machine
end

