-- ==== Sys2Proof/Machine/Ring.lean ====
section
/-!
DEFINITION. The RingBuffer commands (40_ringbuffer.md). None touches the device bus and none can block.

RB_WRITE and RB_READ stop with the fault `storeAddress` where their index is not below `CAPACITY`, which no state a run from
reset reaches has (R24): the address would lie outside the backing store.
-/

namespace Sys2Proof.Machine

/-- RB_RESET (R131): the indices and the count to 0, nothing else. -/
def execRbReset (s : State) : Host.Outcome State Fault Refusal :=
  .next (s.accept.runPrims [.clearRing, .answer (.value 0)])

/-- RB_SPACE (R132). -/
def execRbSpace (s : State) : Host.Outcome State Fault Refusal :=
  .next (s.accept.runPrims [.answer (.value (boolValue (decide (s.cnt < s.cfg.capacity))))])

/-- RB_AVAIL (R133). -/
def execRbAvail (s : State) : Host.Outcome State Fault Refusal :=
  .next (s.accept.runPrims [.answer (.value (zext32 s.cnt))])

/-- RB_FREE (R134). -/
def execRbFree (s : State) : Host.Outcome State Fault Refusal :=
  .next (s.accept.runPrims [.answer (.value (zext32 (s.cfg.capacity - s.cnt)))])

/-- RB_WRITE (R136): `BufferFull` when `CNT = CAPACITY`; else the chunk is stored at `WRI × 32`, `WRI` advances and `CNT` goes
up by one. -/
def execRbWrite (chunk : List Byte) (s : State) : Host.Outcome State Fault Refusal :=
  if s.cnt = s.cfg.capacity then .next (s.accept.runPrim (.raise .bufferFull 0))
  else if s.cfg.capacity ≤ s.wri then .fault .storeAddress
  else .next (s.accept.runPrims [.storeChunk chunk, .advanceWrite, .answer (.value 0)])

/-- RB_READ (R138): `BufferEmpty` when `CNT = 0`; else the chunk at `RDI × 32` is the payload of the response, `RDI` advances
and `CNT` goes down by one. -/
def execRbRead (s : State) : Host.Outcome State Fault Refusal :=
  if s.cnt = 0 then .next (s.accept.runPrim (.raise .bufferEmpty 0))
  else if s.cfg.capacity ≤ s.rdi then .fault .storeAddress
  else .next (s.accept.runPrims [.loadChunk, .advanceRead, .answer .chunk])

end Sys2Proof.Machine
end

