-- ==== Sys2Proof/Machine/Patch.lean ====
section
/-!
DEFINITION. The PatchLoader command (44_patch_loader.md).
-/

namespace Sys2Proof.Machine

/-- The register writes of one record, value by value, all to one address, which does not advance (R221, R225). -/
def writeLoop (addr : Byte) : List Half → State → State
  | [], s => s
  | v :: vs, s => (s.runPrims (regWriteLines addr v ++ [.countWrite])).runAs (.writes addr vs) (writeLoop addr vs)

/-- What the parse loop makes of the words from `PP` on (R221 to R223): all checks of a record come before its writes. -/
inductive RecordHead where
  /-- `PP = n`: the loop ends. -/
  | done
  /-- The words left are no record: `PatchFormatError`. -/
  | malformed
  /-- A record: the register address, the values to write, the words it takes, and the words after it. -/
  | record (addr : Byte) (values : List Half) (size : Nat) (rest : List Half)
  deriving DecidableEq, Repr

/-- Largest address word of a record (R222). -/
def patchAddrMax : Nat := 0x00FF

/-- The record at the front of the words that are left (R105, R221). -/
def recordHead : List Half → RecordHead
  | [] => .done
  | [_] => .malformed
  | address :: cw :: rest =>
    if patchAddrMax < address.toNat then .malformed
    else if isRun cw then
      match rest with
      | [] => .malformed
      | value :: rest' => .record (loByte address) (List.replicate (repeatCount cw) value) 3 rest'
    else if rest.length < repeatCount cw then .malformed
    else .record (loByte address) (rest.take (repeatCount cw)) (2 + repeatCount cw) (rest.drop (repeatCount cw))

/-- `while PP < n`, over the words from `PP` on, at most `n` more records. `PP` moves past a record before its writes, and the
value of `PatchFormatError` is the word index at which the refused record starts. -/
def recordLoop : Nat → List Half → State → State
  | 0, _, s => s
  | n + 1, words, s =>
    match recordHead words with
    | .done => s
    | .malformed => s.runPrim (.raise .patchFormatError (zext32 s.seq.pp))
    | .record addr values size rest =>
      let t : State := { s with seq := { s.seq with pp := s.seq.pp + size } }
      (t.runAs (.writes addr values) (writeLoop addr values)).runAs (.records n rest) (recordLoop n rest)

/-- LOAD_PATCH (R224): the value is the number of register writes issued. -/
def execLoadPatch (words : List Half) (s : State) : Host.Outcome State Fault Refusal :=
  .next (((s.accept.runPrim .patchInit).runAs (.records words.length words) (recordLoop words.length words)).runPrim
    (.answer .writes))

end Sys2Proof.Machine
end

