-- ==== Sys2Proof/Machine/Register.lean ====
section
/-!
DEFINITION. The RegisterProtocol commands and the self-test (42_register_protocol.md).
-/

namespace Sys2Proof.Machine

/-- REG_READ (R183). -/
def execRegRead (addr : Byte) (s : State) : Host.Outcome State Fault Refusal :=
  .next (s.accept.runPrims (regReadLines addr ++ [.answer .readValue]))

/-- REG_WRITE (R184). -/
def execRegWrite (addr : Byte) (value : Half) (s : State) : Host.Outcome State Fault Refusal :=
  .next (s.accept.runPrims (regWriteLines addr value ++ [.answer (.value 0)]))

/-- WRAM_READ (R187). -/
def execWramRead (ext : Half) (s : State) : Host.Outcome State Fault Refusal :=
  .next (s.accept.runPrims (wramReadLines ext ++ [.answer .readValue]))

/-- WRAM_WRITE (R188). -/
def execWramWrite (ext value : Half) (s : State) : Host.Outcome State Fault Refusal :=
  .next (s.accept.runPrims (wramWriteLines ext value ++ [.answer (.value 0)]))

/-! ### The self-test (R190) -/

/-- One sample with test value `t`: one write, two reads, the comparison. -/
def sampleLines (c : Cfg) (t : Half) (delta : Nat) : List Prim :=
  regWriteLines c.regTest t ++ regReadLines c.regTest ++ [.keepFirst] ++ regReadLines c.regTest ++ [.tally t delta]

/-- `while SWI < SWEEP_END and MISM < 20`, at most `n` more samples. -/
def sweepLoop (delta : Nat) : Nat → State → State
  | 0, s => s
  | n + 1, s =>
    if s.seq.swi < s.cfg.sweepEnd ∧ s.seq.mism < Config.mismatchLimit then
      (s.runPrims (sampleLines s.cfg (BitVec.ofNat 16 s.seq.swi) delta)).runAs (.sweep n delta) (sweepLoop delta n)
    else s

/-- `SelfTest`, up to its result, which is `MISM = 0`. `SWEEP_END` samples are enough, since `SWI` grows by at least 1. -/
def selfTest (delta : Nat) (s : State) : State :=
  (s.runPrim .sweepInit).runAs (.sweep s.cfg.sweepEnd delta) (sweepLoop delta s.cfg.sweepEnd)

/-- SELFTEST (R193). -/
def execSelfTest (fast : Bool) (s : State) : Host.Outcome State Fault Refusal :=
  .next ((selfTest (sweepDelta fast) s.accept).runPrim (.answer .selfTest))

end Sys2Proof.Machine
end

