-- ==== Sys2Proof/Machine/Playback.lean ====
section
/-!
DEFINITION. The PlaybackController commands (45_playback_controller.md).
-/

namespace Sys2Proof.Machine

/-! ### Bring-up (R236 to R243) -/

/-- The missing-hardware branch (R238): with the ready line low the pull-up goes on and the low-speed self-test is skipped;
else the low-speed self-test runs. -/
def lowTest (s : State) : State :=
  if s.seq.absent then s.runPrim (.setPullup true) else selfTest Config.deltaSlow s

/-- What follows on `lowOK`: the configuration writes, the high-speed self-test and the fill byte (R239, R240), or the degraded
mode (R241). -/
def bringUpChain (s : State) : State :=
  if s.seq.lowOK then
    (selfTest Config.deltaFast (s.runPrims
      (regWriteLines s.cfg.regSrate s.cfg.srateInit ++ regWriteLines s.cfg.regClock s.cfg.clockInit ++
        [.setSpeed .high] ++ regWriteLines s.cfg.regMode s.cfg.modeInit))).runPrims
      ([.judgeHigh] ++ wramReadLines s.cfg.fillAddr ++ [.keepFill])
  else s.runPrim .degrade

/-- BEGIN (R236). -/
def execBegin (s : State) : Host.Outcome State Fault Refusal :=
  .next (((((s.accept.runPrims
    [.createPlayback, .setPullup false, .setSpeed .low, .resetAssert, .resetRelease, .sampleReady]).runAs
      .lowTest lowTest).runPrim .judgeLow).runAs .bringUpChain bringUpChain).runPrims [.becomeReady, .answer .bringUp])

/-! ### Volume, balance and tone -/

/-- `RegWrite(REG_VOL, val); return zext_32(val)` with `val = VolValue(S.VOL, S.BAL)` (R247, R248). -/
def sendVolume (s : State) : State :=
  s.runPrims (regWriteLines s.cfg.regVol (volValue s.vol s.bal) ++
    [.answer (.value (zextHalf (volValue s.vol s.bal)))])

/-- SET_VOLUME (R247): `ArgRange` with the operand field for a volume above 100. -/
def execSetVolume (v : Byte) (s : State) : Host.Outcome State Fault Refusal :=
  if Config.volMax < v.toNat then .next (s.accept.runPrim (.raise .argRange (zextByte v)))
  else .next (sendVolume { s.accept with vol := v.toNat })

/-- SET_BALANCE (R248): `ArgRange` with the operand field for a balance outside -100..100. -/
def execSetBalance (b : Byte) (s : State) : Host.Outcome State Fault Refusal :=
  if Config.balMax < (balanceOperand b).natAbs then .next (s.accept.runPrim (.raise .argRange (zextByte b)))
  else .next (sendVolume { s.accept with bal := balanceOperand b })

/-- SET_TONE (R252). -/
def execSetTone (n0 n1 n2 n3 : Nibble) (s : State) : Host.Outcome State Fault Refusal :=
  .next (State.runPrims { s.accept with tone := toneValue n0 n1 n2 n3 }
    (regWriteLines s.cfg.regTone (toneValue n0 n1 n2 n3) ++ [.answer (.value (zextHalf (toneValue n0 n1 n2 n3)))]))

/-! ### Diagnostics and time -/

/-- IS_CONNECTED (R255). -/
def execIsConnected (s : State) : Host.Outcome State Fault Refusal :=
  .next (s.accept.runPrims (regReadLines s.cfg.regStatus ++ [.answer .connected]))

/-- GET_TIME (R257). -/
def execGetTime (s : State) : Host.Outcome State Fault Refusal :=
  .next (s.accept.runPrims (regReadLines s.cfg.regTime ++ [.answer .readValue]))

/-- CLR_TIME (R258): two zero writes, never merged. -/
def execClrTime (s : State) : Host.Outcome State Fault Refusal :=
  .next (s.accept.runPrims
    (regWriteLines s.cfg.regTime 0x0000 ++ regWriteLines s.cfg.regTime 0x0000 ++ [.answer (.value 0)]))

/-! ### Rate adjustment -/

/-- ADJ_RATE (R262): seven control transactions. -/
def execAdjRate (ppm : Word) (s : State) : Host.Outcome State Fault Refusal :=
  .next (s.accept.runPrims
    (regWriteLines Config.regWramAddr s.cfg.rateCell ++ regWriteLines Config.regWramData (ppmLow ppm) ++
      regWriteLines Config.regWramData (ppmHigh ppm) ++ wramWriteLines s.cfg.clockrefCell s.cfg.clockrefInvalid ++
      regReadLines s.cfg.regSrate ++ regWriteBackLines s.cfg.regSrate ++ [.answer (.value 0)]))

end Sys2Proof.Machine
end

