-- ==== Sys2Proof/Machine/Stream.lean ====
section
/-!
DEFINITION. The StreamingWriter commands (43_streaming_writer.md).
-/

namespace Sys2Proof.Machine

/-! ### The streaming loop (R201) -/

/-- `while POS < len`, at most `n` more bursts: one ready wait, then at most `SUBCHUNK_MAX` bytes. -/
def burstLoop (src : Source) : Nat → State → State
  | 0, s => s
  | n + 1, s =>
    if s.seq.pos < src.length then
      let k := min (src.length - s.seq.pos) s.cfg.subchunkMax
      (s.runPrims ([.wait] ++ (src.burst s.fill s.seq.pos k).map .send ++ [.posAdd k])).runAs (.bursts n src)
        (burstLoop src n)
    else s

/-- `Stream(len, byteAt)`: one data transaction. `len` bursts are enough, since each sends at least one byte. -/
def stream (src : Source) (s : State) : State :=
  ((s.runPrims [.openBus .data, .posInit]).runAs (.bursts src.length src) (burstLoop src src.length)).runPrim .closeBus

/-- PLAY_CHUNK (R203). -/
def execPlayChunk (data : List Byte) (s : State) : Host.Outcome State Fault Refusal :=
  .next ((stream (.bytes data) s.accept).runPrim (.answer (.value 0)))

/-- SEND_FILL (R205). -/
def execSendFill (n : Half) (s : State) : Host.Outcome State Fault Refusal :=
  .next ((stream (.filler n.toNat) s.accept).runPrim (.answer (.value 0)))

/-- START_SONG (R207). -/
def execStartSong (s : State) : Host.Outcome State Fault Refusal :=
  .next ((stream (.filler s.cfg.nStartFill) s.accept).runPrim (.answer (.value 0)))

/-! ### Stopping a song (R210) -/

/-- The test of the cancel bit: clear ends the command with a big burst and the iteration's number, set begins the next
iteration, which is `next`. -/
def cancelTest (next : State → State) (s : State) : State :=
  if s.cancelSet then next { s with seq := { s.seq with sti := s.seq.sti + 1 } }
  else (stream (.filler s.cfg.nStopBig) s).runPrim (.answer .iterations)

/-- `while STI < STOP_BUDGET`, with `n` iterations left: a small burst, the mode register read into `MODEMIR`, the test. With
none left the command ends `StopIncomplete`. -/
def stopLoop : Nat → State → State
  | 0, s => s.runPrim (.raise .stopIncomplete (zext32 s.cfg.stopBudget))
  | n + 1, s =>
    ((stream (.filler s.cfg.nStopSmall) s).runPrims (regReadLines s.cfg.regMode ++ [.mirror])).runAs (.cancelTest n)
      (cancelTest (stopLoop n))

/-- STOP_SONG (R210). -/
def execStopSong (s : State) : Host.Outcome State Fault Refusal :=
  .next (((stream (.filler s.cfg.nStopBig) s.accept).runPrims
    (regWriteLines s.cfg.regMode s.cfg.modeCancelValue ++ [.stiInit])).runAs (.stopLoop s.cfg.stopBudget)
      (stopLoop s.cfg.stopBudget))

end Sys2Proof.Machine
end

