-- ==== Sys2Proof/Machine/Sequencer.lean ====
section
/-!
DEFINITION. Going on with a command that waits: the effect of every line and loop by its name, which is the same function
that the meanings run, and the resumption of a command in progress.
-/

namespace Sys2Proof.Machine

/-- The effect of a line or loop of pseudocode. -/
def runTask (t : Task) (s : State) : State :=
  match t with
  | .prim p => p.run s
  | .bursts n src => burstLoop src n s
  | .sweep n delta => sweepLoop delta n s
  | .lowTest => lowTest s
  | .bringUpChain => bringUpChain s
  | .stopLoop n => stopLoop n s
  | .cancelTest n => cancelTest (stopLoop n) s
  | .writes addr values => writeLoop addr values s
  | .records n words => recordLoop n words s

/-- Runs the lines of a list in order. -/
def State.runTasks (s : State) (ts : List Task) : State := ts.foldl (fun u t => u.runAs t (runTask t)) s

/-- Goes on with the command in progress: from the wait it stands in, to its next sample that reads 0 or to its end. -/
def State.resume (s : State) : State := State.runTasks { s with todo := [] } s.todo

end Sys2Proof.Machine
end

