-- ==== Sys2Proof/Machine/System.lean ====
section
/-!
DEFINITION. The system command (46_system_commands.md): GET_REG.
-/

namespace Sys2Proof.Machine

/-- Largest internal register number (R270, R271). -/
def intRegMax : Nat := 9

/-- GET_REG (R270): the internal register, or `ArgRange` with the operand field for a number above 9. -/
def execGetReg (k : Byte) (s : State) : Host.Outcome State Fault Refusal :=
  if intRegMax < k.toNat then .next (s.accept.runPrim (.raise .argRange (zextByte k)))
  else .next (s.accept.runPrims [.answer (.value (s.intReg k.toNat))])

end Sys2Proof.Machine
end

