-- ==== Sys2Proof/Machine/Dispatch.lean ====
section
/-!
DEFINITION. The dispatch: one arm per command of spec/opcode_table.json, each one direct call of that command's meaning.
-/

namespace Sys2Proof.Machine

/-- The meaning of a command that the core takes while it is idle. -/
def exec (i : Instr) (s : State) : Host.Outcome State Fault Refusal :=
  match i with
  | .getReg k => Sys2Proof.Machine.execGetReg k s
  | .rbReset => Sys2Proof.Machine.execRbReset s
  | .rbSpace => Sys2Proof.Machine.execRbSpace s
  | .rbAvail => Sys2Proof.Machine.execRbAvail s
  | .rbFree => Sys2Proof.Machine.execRbFree s
  | .rbWrite chunk => Sys2Proof.Machine.execRbWrite chunk s
  | .rbRead => Sys2Proof.Machine.execRbRead s
  | .regRead addr => Sys2Proof.Machine.execRegRead addr s
  | .regWrite addr value => Sys2Proof.Machine.execRegWrite addr value s
  | .wramRead ext => Sys2Proof.Machine.execWramRead ext s
  | .wramWrite ext value => Sys2Proof.Machine.execWramWrite ext value s
  | .selfTest fast => Sys2Proof.Machine.execSelfTest fast s
  | .playChunk data => Sys2Proof.Machine.execPlayChunk data s
  | .sendFill n => Sys2Proof.Machine.execSendFill n s
  | .startSong => Sys2Proof.Machine.execStartSong s
  | .stopSong => Sys2Proof.Machine.execStopSong s
  | .loadPatch words => Sys2Proof.Machine.execLoadPatch words s
  | .begin => Sys2Proof.Machine.execBegin s
  | .setVolume v => Sys2Proof.Machine.execSetVolume v s
  | .setBalance b => Sys2Proof.Machine.execSetBalance b s
  | .setTone n0 n1 n2 n3 => Sys2Proof.Machine.execSetTone n0 n1 n2 n3 s
  | .isConnected => Sys2Proof.Machine.execIsConnected s
  | .getTime => Sys2Proof.Machine.execGetTime s
  | .clrTime => Sys2Proof.Machine.execClrTime s
  | .adjRate ppm => Sys2Proof.Machine.execAdjRate ppm s

end Sys2Proof.Machine
end

