-- ==== Sys2Proof/Machine/Port.lean ====
section
/-!
DEFINITION. The command port (30_encoding.md R90): taking the next message, and idling without one.
-/

namespace Sys2Proof.Machine

/-- A step in which the idle core has nothing to do: it holds its state (R301). Only the host's clock to the next hardware reset
runs on. -/
def State.idle (s : State) : State := s.tick

/-- The message at the command port is taken and executed (R90); one that spells no command raises `IllegalCommand` with value 0,
and changes nothing else (R97). Taking it is a micro-operation, after which a hardware reset can strike before the command's
first line: the message is then lost without a response (R311). -/
def takeMessage (m : Message) (rest : List Message) (s : State) : Host.Outcome State Fault Refusal :=
  match decode m with
  | .ok i => exec i { s.tick with inbox := rest }
  | .error _ => .next (State.runPrim (State.accept { s.tick with inbox := rest }) (.raise .illegalCommand 0))

end Sys2Proof.Machine
end

