-- ==== Sys2Proof/Machine/Step.lean ====
section
/-!
DEFINITION. One step of the machine, and the placing of an instruction where the step fetches.

A step of an idle core takes the next message at the command port and runs its command up to the command's end or up to the
first sample of the ready input that reads 0 (where the core yields, R166). A step of a core with a command in progress goes
on from there. So a wait that is never answered is an infinite run of steps (R171, R291), and a command whose device is ready
is one step.
-/

namespace Sys2Proof.Machine

/-- One step. A hardware reset that is due comes first (R311); then a command in progress goes on (R3); then the next message
is taken; with none the core stays idle. -/
def step (s : State) : Host.Outcome State Fault Refusal :=
  match s.resetScript with
  | 0 :: _ => .next s.hardwareReset
  | _ =>
    match s.busy, s.inbox with
    | true, _ => .next s.resume
    | false, m :: rest => takeMessage m rest s
    | false, [] => .next s.idle

/-- The state with one instruction of the opcode table as the next message at the command port, and nothing that would come
before it: no command in progress and no hardware reset due. -/
def State.withFetchWord (s : State) (nbits w : Nat) : State :=
  { s with inbox := tableMessage nbits w :: s.inbox, busy := false, todo := [], resetScript := [] }

end Sys2Proof.Machine
end

