-- ==== Sys2Proof/Safety.lean ====
section
/-!
DEFINITION. What counts as a legal state and as a run of a command, in the terms the statements use: the premise that the
device answers, what a command that has ended leaves, the event traces of 95_test_vectors.md section 1.2, the queue the ring
stands for (R142), the records of a patch (R105), and the invariant of the machine.
-/

namespace Sys2Proof.Machine

/-! ### Premises on the environment -/

/-- No hardware reset is coming, and the device answers 1 to each of the next `n` polls. It is the fairness premise of R171 as a
fact about a state: met, for example, by `n` times `true` in `pollScript`. -/
def DeviceReady (s : State) (n : Nat) : Prop := s.resetScript = [] ∧ ∀ k, k < n → s.pollAt k = true

/-! ### What a command leaves -/

/-- Every register of the core, every parameter and every byte of the store is as before (10_state.md rules R21 to R39, less
`BUSMODE`, which each statement names). The sequencing state of R34 is dead when a command has ended and is not compared. -/
structure SameRegisters (s t : State) : Prop where
  cfg : t.cfg = s.cfg
  rdi : t.rdi = s.rdi
  wri : t.wri = s.wri
  cnt : t.cnt = s.cnt
  store : ∀ a, t.storeByte a = s.storeByte a
  vol : t.vol = s.vol
  bal : t.bal = s.bal
  tone : t.tone = s.tone
  fill : t.fill = s.fill
  modeMir : t.modeMir = s.modeMir
  busSpd : t.busSpd = s.busSpd
  rdyPull : t.rdyPull = s.rdyPull
  ready : t.ready = s.ready
  degraded : t.degraded = s.degraded
  hsFail : t.hsFail = s.hsFail
  pulse : t.pulse = s.pulse

/-- A command that began in `s` has ended in `t`: its one response is `r`, its events are `evs`, and it made `polls` polls and
`xfers` transfers. The host's other messages wait as before. -/
structure Ended (s t : State) (r : Response) (evs : List Event) (polls xfers : Nat) : Prop where
  busy : t.busy = false
  todo : t.todo = []
  responses : t.responses = r :: s.responses
  events : t.events = s.events ++ evs
  inbox : t.inbox = s.inbox
  resetScript : t.resetScript = s.resetScript
  resets : t.resets = s.resets
  pollScript : t.pollScript = s.pollScript.drop polls
  polled : t.polled = s.polled + polls
  rxScript : t.rxScript = s.rxScript.drop xfers
  clocked : t.clocked = s.clocked + xfers

/-- A command that began in `s` stands in `t` in the first ready wait of its first transaction, of mode `m`, after one sample,
which read 0: its events are `evs`, and it made `polls` polls and no transfer. It has sent no response and taken no message. -/
structure StandsInWait (s t : State) (m : Mode) (evs : List Event) (polls : Nat) : Prop where
  busy : t.busy = true
  todo : ∃ rest, t.todo = .prim .pollAgain :: rest
  busMode : t.busMode = .active m
  counted : t.seq.polls = 1
  responses : t.responses = s.responses
  events : t.events = s.events ++ evs
  inbox : t.inbox = s.inbox
  resetScript : t.resetScript = s.resetScript
  resets : t.resets = s.resets
  pollScript : t.pollScript = s.pollScript.drop polls
  polled : t.polled = s.polled + polls
  rxScript : t.rxScript = s.rxScript
  clocked : t.clocked = s.clocked

/-- The mode of the transaction that a device command opens first, for a command whose first sample of the ready input is that of
the wait this transaction begins with. There is none for a ring command, GET_REG, an operand out of range, a stream of length
zero first (R206), a sweep of no sample, a patch whose first record is malformed or writes nothing, and BEGIN, whose first sample is
outside every wait (R173). -/
def firstWait (c : Cfg) : Instr → Option Mode
  | .regRead _ | .regWrite _ _ | .wramRead _ | .wramWrite _ _ | .setTone _ _ _ _ | .isConnected | .getTime | .clrTime
  | .adjRate _ => some .ctrl
  | .setVolume v => if v.toNat ≤ 100 then some .ctrl else none
  | .setBalance b => if -100 ≤ b.toInt ∧ b.toInt ≤ 100 then some .ctrl else none
  | .selfTest _ => if 0 < c.sweepEnd then some .ctrl else none
  | .loadPatch (address :: cw :: values) =>
      if address.toNat ≤ 0x00FF ∧ 0 < cw.toNat % 0x8000 ∧
          (if 0x8000 ≤ cw.toNat then 1 else cw.toNat) ≤ values.length then some .ctrl else none
  | .loadPatch _ => none
  | .playChunk data => if 0 < data.length then some .data else none
  | .sendFill n => if 0 < n.toNat then some .data else none
  | .startSong => if 0 < c.nStartFill then some .data else none
  | .stopSong => if 0 < c.nStopBig then some .data else none
  | .begin | .getReg _ | .rbReset | .rbSpace | .rbAvail | .rbFree | .rbWrite _ | .rbRead => none

/-- The state with the registers that a command of the volume, balance or tone writes before its first transaction (R247, R248,
R252). -/
def State.withOperand (s : State) : Instr → State
  | .setVolume v => { s with vol := v.toNat }
  | .setBalance b => { s with bal := b.toInt }
  | .setTone n0 n1 n2 n3 => { s with tone := n0 ++ n1 ++ n2 ++ n3 }
  | _ => s

/-- `u` is a state of the same command as `t`, on its way to the response: `t` itself, or reached from it by steps that each begin
with the command in progress. -/
inductive CommandRun (t : State) : State → Prop where
  /-- `t` itself. -/
  | here : CommandRun t t
  /-- One step further. -/
  | next {u v : State} : CommandRun t u → u.busy = true → step u = .next v → CommandRun t v

/-! ### A hardware reset inside a command (R311) -/

/-- A hardware reset has struck between `s` and `t`, after the events `evs`: every element has its value of R43, both select lines
are deasserted, the core is idle, and no response has been sent. -/
structure ResetHit (s t : State) (rest : List Nat) (evs : List Event) : Prop where
  rdi : t.rdi = 0
  wri : t.wri = 0
  cnt : t.cnt = 0
  vol : t.vol = 0
  bal : t.bal = 0
  tone : t.tone = 0
  fill : t.fill = 0
  modeMir : t.modeMir = 0
  busMode : t.busMode = .idle
  busSpd : t.busSpd = .low
  rdyPull : t.rdyPull = false
  ready : t.ready = false
  degraded : t.degraded = false
  hsFail : t.hsFail = false
  busy : t.busy = false
  todo : t.todo = []
  selCtl : t.selCtl = false
  selDat : t.selDat = false
  cfg : t.cfg = s.cfg
  resets : t.resets = s.resets + 1
  resetScript : t.resetScript = rest
  inbox : t.inbox = s.inbox
  responses : t.responses = s.responses
  events : t.events = s.events ++ evs

/-- A hardware reset can strike `f` at any time. Where `f` takes `s`, with no reset coming, to `t` with the events `evs`: with a
reset coming after any number of lines, either `f` does the same and the reset is still to come, or the reset has struck after a
first part of `evs`; it can strike right before each of these events and, where the command has ended in `t`, after them all and
before the response; and it can be due right after `t`. -/
def ResetStrikesAnywhere (f : State → Host.Outcome State Fault Refusal) (s t : State) : Prop :=
  ∃ evs, t.events = s.events ++ evs ∧
    (∀ n rest, ∃ u, f { s with resetScript := n :: rest } = .next u ∧
      ((∃ m, m ≤ n ∧ u = { t with resetScript := m :: rest }) ∨ ∃ a b, evs = a ++ b ∧ ResetHit s u rest a)) ∧
    (∀ a b, evs = a ++ b → b ≠ [] ∨ t.busy = false →
      ∃ n, ∀ rest, ∃ u, f { s with resetScript := n :: rest } = .next u ∧ ResetHit s u rest a) ∧
    (∃ n, ∀ rest, f { s with resetScript := n :: rest } = .next { t with resetScript := 0 :: rest })

/-! ### Event traces against a device that is ready at every poll (95_test_vectors.md section 1.2) -/

/-- The 16 bits received in a read frame whose first transfer is the `k`-th from `s` on. -/
def readAt (s : State) (k : Nat) : Half := s.rxAt (k + 2) ++ s.rxAt (k + 3)

/-- `W(a, v)`: a write frame whose first transfer is the `k`-th from `s` on. -/
def writeEvents (s : State) (k : Nat) (addr : Byte) (v : Half) : List Event :=
  [.opened .ctrl, .poll true, .xfer 0x02 (s.rxAt k), .xfer addr (s.rxAt (k + 1)), .xfer (hiByte v) (s.rxAt (k + 2)),
   .xfer (loByte v) (s.rxAt (k + 3)), .poll true, .closed]

/-- `R(a)=v`: a read frame whose first transfer is the `k`-th from `s` on. -/
def readEvents (s : State) (k : Nat) (addr : Byte) : List Event :=
  [.opened .ctrl, .poll true, .xfer 0x03 (s.rxAt k), .xfer addr (s.rxAt (k + 1)),
   .xfer s.cfg.rdDummy (s.rxAt (k + 2)), .xfer s.cfg.rdDummy (s.rxAt (k + 3)), .poll true, .closed]

/-- `D{..}`: a data transaction that streams `len` bytes, with a poll before each burst of `SUBCHUNK_MAX` bytes; its first
transfer is the `k`-th from `s` on. -/
def streamEvents (s : State) (k len : Nat) (byteAt : Nat → Byte) : List Event :=
  [.opened .data] ++
    (List.range len).flatMap (fun p =>
      (if p % s.cfg.subchunkMax = 0 then [.poll true] else []) ++ [.xfer (byteAt p) (s.rxAt (k + p))]) ++
    [.closed]

/-- `ceil(len / SUBCHUNK_MAX)`: the ready waits of a stream (R201). -/
def streamPolls (c : Cfg) (len : Nat) : Nat := (len + c.subchunkMax - 1) / c.subchunkMax

/-- A sequence of register writes, each its own transaction, the first transfer the `k`-th from `s` on. -/
def writesEvents (s : State) (k : Nat) : List (Byte × Half) → List Event
  | [] => []
  | (a, v) :: rest => writeEvents s k a v ++ writesEvents s (k + 4) rest

/-! ### The self-test in terms of what the device sends (R190) -/

/-- The number of samples of a whole sweep (R191). -/
def sampleCount (c : Cfg) (delta : Nat) : Nat := (c.sweepEnd + delta - 1) / delta

/-- Sample `j` of a sweep whose first transfer is the `k`-th from `s` on reads back right both times. -/
def sampleOK (s : State) (k delta j : Nat) : Bool :=
  decide (BitVec.ofNat 16 (j * delta) = readAt s (k + 12 * j + 4)) &&
  decide (readAt s (k + 12 * j + 4) = readAt s (k + 12 * j + 8))

/-- All `n` samples read back right. -/
def sweepOK (s : State) (k delta n : Nat) : Bool := (List.range n).all (sampleOK s k delta)

/-- The events of the first `n` samples. -/
def sweepEvents (s : State) (k delta n : Nat) : List Event :=
  (List.range n).flatMap fun j =>
    writeEvents s (k + 12 * j) s.cfg.regTest (BitVec.ofNat 16 (j * delta)) ++
    readEvents s (k + 12 * j + 4) s.cfg.regTest ++ readEvents s (k + 12 * j + 8) s.cfg.regTest

/-- The mismatches among the first `m` samples. -/
def mismatches (s : State) (k delta m : Nat) : Nat :=
  ((List.range m).filter fun j => !sampleOK s k delta j).length

/-- A sweep of at most `n` samples ends after `m`: all of them with fewer than 20 mismatches, or at the 20th mismatch, which is
that of sample `m - 1`. -/
def SweepEnds (s : State) (k delta n m : Nat) : Prop :=
  m ≤ n ∧ ((m = n ∧ mismatches s k delta m < 20) ∨
    (0 < m ∧ mismatches s k delta m = 20 ∧ sampleOK s k delta (m - 1) = false))

/-! ### The rounds of STOP_SONG in terms of what the device sends (R210) -/

/-- The first transfer of round `j`: after the big burst and the cancel write, each round is a small burst and a read frame. -/
def roundStart (c : Cfg) (j : Nat) : Nat := c.nStopBig + 4 + j * (c.nStopSmall + 4)

/-- What the mode register reads in round `j`. -/
def modeAt (s : State) (j : Nat) : Half := readAt s (roundStart s.cfg j + s.cfg.nStopSmall)

/-- The device answers round `j` with the cancel bit set. -/
def cancelAt (s : State) (j : Nat) : Bool := decide (modeAt s j &&& s.cfg.cancelMask ≠ 0)

/-- The events of round `j`. -/
def roundEvents (s : State) (j : Nat) : List Event :=
  streamEvents s (roundStart s.cfg j) s.cfg.nStopSmall (fun _ => s.fill) ++
    readEvents s (roundStart s.cfg j + s.cfg.nStopSmall) s.cfg.regMode

/-- The events of STOP_SONG up to the end of its first `n` rounds. -/
def stopEvents (s : State) (n : Nat) : List Event :=
  streamEvents s 0 s.cfg.nStopBig (fun _ => s.fill) ++
    writeEvents s s.cfg.nStopBig s.cfg.regMode s.cfg.modeCancelValue ++ (List.range n).flatMap (roundEvents s)

/-- The ready waits of STOP_SONG up to the end of its first `n` rounds. -/
def stopPolls (c : Cfg) (n : Nat) : Nat :=
  streamPolls c c.nStopBig + 2 + n * (streamPolls c c.nStopSmall + 2)

/-! ### Bring-up (R236) -/

/-- The first assignments of BEGIN on the registers it creates, the pull-up and the speed (R45). -/
def State.created (s : State) : State :=
  { s with vol := 0, bal := 0, tone := 0, fill := 0, modeMir := 0, ready := false, degraded := false, hsFail := false,
           rdyPull := false, busSpd := .low, pulse := false }

/-- The events of BEGIN up to its one sample of the ready input. -/
def beginEvents (s : State) (r : Bool) : List Event :=
  (if s.rdyPull then [.pullupOff] else []) ++ [.speed .low, .resetAssert, .resetRelease, .poll r]

/-- The events of BEGIN's configuration writes, the first transfer the `k`-th from `s` on (R239). -/
def configEvents (s : State) (k : Nat) : List Event :=
  writeEvents s k s.cfg.regSrate s.cfg.srateInit ++ writeEvents s (k + 4) s.cfg.regClock s.cfg.clockInit ++
    [.speed .high] ++ writeEvents s (k + 8) s.cfg.regMode s.cfg.modeInit

/-- The events of an extended read, the first transfer the `k`-th from `s` on (R185). -/
def wramReadEvents (s : State) (k : Nat) (ext : Half) : List Event :=
  writeEvents s k 0x07 ext ++ readEvents s (k + 4) 0x06

/-! ### Status bits that gate nothing (R296) -/

/-- The state with other values of `READY`, `DEGRADED` and `HSFAIL`. -/
def State.withStatusBits (s : State) (ready degraded hsFail : Bool) : State :=
  { s with ready := ready, degraded := degraded, hsFail := hsFail }

/-- The outcome with the next state, if there is one, changed by `f`. -/
def mapNext (f : State → State) : Host.Outcome State Fault Refusal → Host.Outcome State Fault Refusal
  | .next t => .next (f t)
  | .fault r => .fault r
  | .refused r => .refused r

/-! ### The ring as a queue (R142) -/

/-- `chunk(i) = MemRead(i × 32, 32)`. -/
def State.chunkAt (s : State) (i : Nat) : List Byte := s.memRead (i * 32) 32

/-- `Q`: the chunks from `RDI` onward, `CNT` of them. -/
def State.queue (s : State) : List (List Byte) :=
  (List.range s.cnt).map fun k => s.chunkAt ((s.rdi + k) % s.cfg.capacity)

/-- A ring command of the two roles (R141). -/
inductive RingCommand where
  /-- RB_WRITE. -/
  | write (chunk : List Byte)
  /-- RB_READ. -/
  | read
  deriving DecidableEq, Repr

/-- The command as an instruction. -/
def RingCommand.instr : RingCommand → Instr
  | .write chunk => .rbWrite chunk
  | .read => .rbRead

/-- What a sequence of ring commands did: the payloads of the reads and of the writes that answered `OK`, in order, and the
state after. -/
structure RingRun where
  /-- Payloads of the successful RB_READs. -/
  reads : List (List Byte)
  /-- Payloads of the successful RB_WRITEs. -/
  writes : List (List Byte)
  /-- The state after. -/
  state : State
  deriving DecidableEq, Repr

/-- Runs ring commands one after the other; `none` where one stops without a next state. -/
def runRing : List RingCommand → State → Option RingRun
  | [], s => some ⟨[], [], s⟩
  | c :: cs, s =>
    match exec c.instr s with
    | .next t =>
      match runRing cs t, t.responses.head?, c with
      | some r, some ⟨.ok, _, p⟩, .read => some { r with reads := p :: r.reads }
      | some r, some ⟨.ok, _, _⟩, .write chunk => some { r with writes := chunk :: r.writes }
      | r, _, _ => r
    | _ => none

/-! ### Patches (R105) -/

/-- One record of a patch. -/
inductive PatchRecord where
  /-- A run record: one value, `n` times. -/
  | run (addr : Byte) (n : BitVec 15) (value : Half)
  /-- A copy record: the values in order. -/
  | copy (addr : Byte) (values : List Half)
  deriving DecidableEq, Repr

/-- A copy record has at most 32767 values, the most its 15-bit count can say. -/
def PatchRecord.valid : PatchRecord → Bool
  | .run _ _ _ => true
  | .copy _ values => decide (values.length < 2 ^ 15)

/-- The words of a record. -/
def PatchRecord.words : PatchRecord → List Half
  | .run addr n value => [addr.setWidth 16, (1 : BitVec 1) ++ n, value]
  | .copy addr values => [addr.setWidth 16, BitVec.ofNat 16 values.length] ++ values

/-- The register writes of a record, all to one address (R225). -/
def PatchRecord.writes : PatchRecord → List (Byte × Half)
  | .run addr n value => List.replicate n.toNat (addr, value)
  | .copy addr values => values.map fun v => (addr, v)

/-- The words that are left are no record (R222, R223): a word without a count word, an address above 0x00FF, a run record
without its value, or a copy record that says more values than are left. -/
def Malformed (tail : List Half) : Prop :=
  (∃ w, tail = [w]) ∨
  ∃ address cw rest, tail = address :: cw :: rest ∧
    (0x00FF < address.toNat ∨ (0x8000 ≤ cw.toNat ∧ rest = []) ∨ (cw.toNat < 0x8000 ∧ rest.length < cw.toNat))

/-! ### The invariant of the machine -/

/-- A line that can stand behind a ready wait of its command: all but the lines of the ring commands, the first lines of BEGIN and
of LOAD_PATCH, before which no command waits, and the lines that only the line before them calls up. -/
def Prim.mayWait : Prim → Bool
  | .storeChunk _ | .advanceWrite | .loadChunk | .advanceRead | .clearRing | .createPlayback | .setPullup _
  | .resetAssert | .resetRelease | .sampleReady | .patchInit | .yield | .raise _ _ => false
  | .openBus _ | .closeBus | .wait | .pollAgain | .send _ | .sendReadHi | .sendReadLo | .recvHi | .recvLo | .posInit
  | .posAdd _ | .sweepInit | .keepFirst | .tally _ _ | .stiInit | .mirror | .countWrite | .setSpeed _ | .judgeLow
  | .judgeHigh | .keepFill | .degrade | .becomeReady | .answer _ => true

/-- A line or loop that can stand behind a ready wait. -/
def Task.mayWait : Task → Bool
  | .prim p => p.mayWait
  | .lowTest => false
  | .bursts _ _ | .sweep _ _ | .bringUpChain | .stopLoop _ | .cancelTest _ | .writes _ _ | .records _ _ => true

/-- The transaction mode after a line, from the mode before it; none where the line may not stand there (R169): a transaction
opens only from idle, polls of a wait and transfers happen only inside one, and a command answers only outside. -/
def Prim.modeAfter (b : BusMode) : Prim → Option BusMode
  | .openBus m => if b = .idle then some (.active m) else none
  | .closeBus => if b = .idle then none else some .idle
  | .wait | .pollAgain | .yield | .send _ | .sendReadHi | .sendReadLo | .recvHi | .recvLo => if b = .idle then none else some b
  | .resetAssert | .resetRelease | .sampleReady | .answer _ | .raise _ _ => if b = .idle then some b else none
  | .posInit | .posAdd _ | .sweepInit | .keepFirst | .tally _ _ | .stiInit | .mirror | .patchInit | .countWrite
  | .createPlayback | .setPullup _ | .setSpeed _ | .judgeLow | .judgeHigh | .keepFill | .degrade | .becomeReady
  | .storeChunk _ | .advanceWrite | .loadChunk | .advanceRead | .clearRing => some b

/-- The same for a loop: the bursts of a stream stand inside its data transaction, the other loops outside every one. -/
def Task.modeAfter (b : BusMode) : Task → Option BusMode
  | .prim p => p.modeAfter b
  | .bursts _ _ => if b = .active .data then some b else none
  | .sweep _ _ | .lowTest | .bringUpChain | .stopLoop _ | .cancelTest _ | .writes _ _ | .records _ _ =>
      if b = .idle then some b else none

/-- The lines, run from mode `b`, close what they open and end idle. -/
def bracketed : BusMode → List Task → Bool
  | b, [] => decide (b = .idle)
  | b, t :: ts =>
    match t.modeAfter b with
    | some b' => bracketed b' ts
    | none => false

/-- A line or loop with which a command ends in a response. -/
def Task.ends : Task → Bool
  | .prim (.answer _) | .prim (.raise _ _) | .stopLoop _ | .cancelTest _ => true
  | _ => false

/-- The last of the lines ends the command. -/
def endsAnswered : List Task → Bool
  | [] => false
  | [t] => t.ends
  | _ :: t :: ts => endsAnswered (t :: ts)

/-- What holds of the machine between steps. -/
structure State.Inv (s : State) : Prop where
  /-- R7. -/
  cfg : s.cfg.wf = true
  /-- R21. -/
  rdi : s.rdi < s.cfg.capacity
  /-- R24 I1. -/
  cnt : s.cnt ≤ s.cfg.capacity
  /-- R24 I2. -/
  wri : s.wri = (s.rdi + s.cnt) % s.cfg.capacity
  /-- The store is in its canonical form. -/
  store : Memory.wf s.store = true
  /-- Every byte written lies in the store's address range (R60). -/
  range : ∀ c ∈ s.store, c.1 < storeSize s.cfg
  /-- R26. -/
  vol : s.vol ≤ Config.volMax
  /-- R27. -/
  bal : s.bal.natAbs ≤ Config.balMax
  /-- The reset pulse lies inside one step of BEGIN (R172). -/
  pulse : s.pulse = false
  /-- Between commands no transaction is open (R32) and nothing is left to do. -/
  idle : s.busy = false → s.busMode = .idle ∧ s.todo = []
  /-- A command in progress stands in one ready wait (R273), and the rest of it closes its transaction and answers. -/
  waiting : s.busy = true →
    (∃ rest, s.todo = .prim .pollAgain :: rest) ∧ s.todo.all Task.mayWait = true ∧
      bracketed s.busMode s.todo = true ∧ endsAnswered s.todo = true

/-- The transaction mode that a trace, newest event first, leaves open; none where the trace breaks the bracketing of R169: an
`OPEN` inside a transaction, or a `CLOSE`, a transfer or a yield outside every one. -/
def traceMode : List Event → Option BusMode
  | [] => some .idle
  | .opened m :: es => if traceMode es = some .idle then some (.active m) else none
  | .closed :: es =>
    match traceMode es with
    | some (.active _) => some .idle
    | _ => none
  | .xfer _ _ :: es | .yield :: es =>
    match traceMode es with
    | some (.active m) => some (.active m)
    | _ => none
  | .poll _ :: es | .speed _ :: es | .resetAssert :: es | .resetRelease :: es | .pullupOn :: es | .pullupOff :: es
  | .storeWrite _ _ :: es | .storeRead _ _ :: es => traceMode es

/-- An event at the store port; every other event is one at the device bus port (R13). -/
def Event.atStore : Event → Bool
  | .storeWrite _ _ | .storeRead _ _ => true
  | .opened _ | .closed | .poll _ | .yield | .xfer _ _ | .speed _ | .resetAssert | .resetRelease | .pullupOn
  | .pullupOff => false

/-- A command of 40_ringbuffer.md. -/
def isRingCommand : Instr → Bool
  | .rbReset | .rbSpace | .rbAvail | .rbFree | .rbWrite _ | .rbRead => true
  | _ => false

end Sys2Proof.Machine
end

