-- ==== Sys2Proof/Certificates/Slice0/Obligations.lean ====
section
/-!
DEFINITION. The statements for the provers, each a `def Obligations.<Name> : Prop`; OBLIGATIONS.json lists them.

A statement that a command completes says what state follows: the registers it writes and that every other one stays
(`SameRegisters`, through the model's read of one byte of the store), its response, its events, and what it used of the
device's answers (`Ended`). Its premise on the environment is `DeviceReady`: no hardware reset is coming and the device is
ready at as many polls as the command makes.
-/

open Sys2Proof Sys2Proof.Machine

/-! ## Reset -/

/-- R43: the values after hardware reset. The store's content is unspecified and has no clause. -/
def Obligations.ResetHoldsTheSpecValues : Prop :=
  State.reset.rdi = 0 ∧ State.reset.wri = 0 ∧ State.reset.cnt = 0 ∧ State.reset.vol = 0 ∧ State.reset.bal = 0 ∧
  State.reset.tone = 0x0000 ∧ State.reset.fill = 0x00 ∧ State.reset.modeMir = 0x0000 ∧ State.reset.busMode = .idle ∧
  State.reset.busSpd = .low ∧ State.reset.rdyPull = false ∧ State.reset.ready = false ∧
  State.reset.degraded = false ∧ State.reset.hsFail = false ∧ State.reset.busy = false

/-- R311, R310 (a): a hardware reset that is due ends a command in progress without a response, deasserts both select lines
with no event, switches the pull-up off, and leaves the core idle with the values of R43; it can strike at any time inside a
command, in its first step and in every later one: before each of its events and before its response, after any first part of its
events and without a response, and right after its end, before the next message; the same for a message that spells no command;
and it can strike right after a message is taken, which is then lost. When it strikes is the host's input `resetScript`, and what
is one line and what the trace shows is the model's choice: notes/assumptions/9.md. -/
def Obligations.HardwareResetEndsTheCommand : Prop :=
  (∀ (s : State) (rest : List Nat), s.resetScript = 0 :: rest →
    ∃ t, step s = .next t ∧
      t.rdi = 0 ∧ t.wri = 0 ∧ t.cnt = 0 ∧ t.vol = 0 ∧ t.bal = 0 ∧ t.tone = 0 ∧ t.fill = 0 ∧ t.modeMir = 0 ∧
      t.busMode = .idle ∧ t.busSpd = .low ∧ t.rdyPull = false ∧ t.ready = false ∧ t.degraded = false ∧
      t.hsFail = false ∧ t.busy = false ∧ t.todo = [] ∧ t.selCtl = false ∧ t.selDat = false ∧
      t.cfg = s.cfg ∧ t.trace = s.trace ∧ t.responses = s.responses ∧ t.inbox = s.inbox ∧ t.resetScript = rest) ∧
  (∀ (i : Instr) (s t : State), s.resetScript = [] → s.busMode = .idle → exec i s = .next t →
    ResetStrikesAnywhere (exec i) s t) ∧
  (∀ s t : State, s.Inv → s.busy = true → s.resetScript = [] → step s = .next t → ResetStrikesAnywhere step s t) ∧
  (∀ (m : Message) (s t : State), s.resetScript = [] → s.busMode = .idle → takeMessage m s.inbox s = .next t →
    ResetStrikesAnywhere (takeMessage m s.inbox) s t) ∧
  (∀ (s : State) (m : Message) (ms : List Message) (rest : List Nat), s.Inv → s.busy = false → s.inbox = m :: ms →
    s.resetScript = 1 :: rest → ∃ t, step s = .next t ∧ ResetHit { s with inbox := ms } t rest [])

/-- The invariant of the machine holds after reset, with the default parameters (the model's choice of `Cfg` in `State.reset`:
notes/assumptions/2.md). -/
def Obligations.ResetSatisfiesTheInvariant : Prop := State.reset.Inv

/-! ## Invariants of every step -/

/-- R24 (I1, I2) and the rest of `State.Inv`: the ring's invariants, the ranges of `VOL` and `BAL`, the store's canonical form
and address range, no transaction open between commands, and a command in progress standing in a ready wait from which it
closes its transaction and answers (R24 is marked by the spec as derived). -/
def Obligations.StepKeepsTheInvariant : Prop := ∀ s t : State, s.Inv → step s = .next t → t.Inv

/-- R169: in the event trace `OPEN` and `CLOSE` alternate, beginning with `OPEN`, and every transfer lies between an `OPEN` and
its `CLOSE`, through every step that no hardware reset cuts. -/
def Obligations.StepKeepsTheTraceBracketed : Prop :=
  ∀ s t : State, s.Inv → s.resetScript = [] → traceMode s.trace = some s.busMode → step s = .next t →
    traceMode t.trace = some t.busMode

/-- R21 to R23: under the invariant the indices and the count fit the widths `IDXW` and `CNTW`. -/
def Obligations.RingRegistersFitTheirWidths : Prop :=
  ∀ s : State, s.Inv →
    s.rdi < 2 ^ idxWidth s.cfg ∧ s.wri < 2 ^ idxWidth s.cfg ∧ s.cnt < 2 ^ cntWidth s.cfg

/-- R38: the select pins and the pull-up pin, and that outside the reset pulse at most one select line is asserted. -/
def Obligations.PinsFollowTheBusMode : Prop :=
  ∀ s : State,
    (s.selCtl = true ↔ s.busMode = .active .ctrl ∨ s.pulse = true) ∧
    (s.selDat = true ↔ s.busMode = .active .data ∨ s.pulse = true) ∧ s.rdyPullPin = s.rdyPull ∧
    (s.pulse = false → ¬ (s.selCtl = true ∧ s.selDat = true))

/-! ## Encodings -/

/-- Every well-formed command is what the decoder reads from its message: no bit of an encoding is dropped. -/
def Obligations.DecodeOfEncodeIsTheCommand : Prop := ∀ i : Instr, i.wellFormed = true → decode (encode i) = .ok i

/-- A message has one spelling: what the decoder accepts is the encoding of what it answers, which is well formed. -/
def Obligations.EncodeOfDecodeIsTheMessage : Prop :=
  ∀ (m : Message) (i : Instr), decode m = .ok i → encode i = m ∧ i.wellFormed = true

/-- R93, R96, R97: a message spells a command exactly when its word selects a row of the table and its payload has the length
of R93. -/
def Obligations.DecodeAcceptsExactlyTheTable : Prop :=
  ∀ (op a3 a2 a1 a0 : Byte) (payload : List Byte),
    (∃ i, decode (op :: a3 :: a2 :: a1 :: a0 :: payload) = .ok i) ↔
      (∃ r ∈ opcodeTable, (op ++ wordOf a3 a2 a1 a0 : CommandWord) &&& r.mask = r.pattern) ∧
        payload.length = payloadLength op (a1 ++ a0)

/-- A few messages written out from the spec's encodings decode to what they stand for. -/
def Obligations.WrittenOutMessagesDecode : Prop :=
  decode [0x21, 0x00, 0x0B, 0x12, 0x34] = .ok (.regWrite 0x0B 0x1234) ∧
  decode [0x23, 0x1E, 0x07, 0x00, 0xFF] = .ok (.wramWrite 0x1E07 0x00FF) ∧
  decode [0x53, 0x00, 0x00, 0x35, 0xAF] = .ok (.setTone 3 5 10 15) ∧
  decode [0x57, 0xFF, 0xFE, 0x79, 0x60] = .ok (.adjRate (BitVec.ofInt 32 (-100000))) ∧
  decode [0x40, 0x00, 0x00, 0x00, 0x02, 0x00, 0x20, 0x00, 0x00] = .ok (.loadPatch [0x0020, 0x0000])

/-- R97: a message that selects no row, or has a wrong payload length, changes no state, emits no event, is dropped whole and
gets `IllegalCommand` with value 0. -/
def Obligations.IllegalMessageIsDropped : Prop :=
  ∀ (s : State) (op a3 a2 a1 a0 : Byte) (payload : List Byte) (rest : List Message),
    s.resetScript = [] → s.busy = false → s.todo = [] → s.busMode = .idle →
    s.inbox = (op :: a3 :: a2 :: a1 :: a0 :: payload) :: rest →
    ¬ ((∃ r ∈ opcodeTable, (op ++ wordOf a3 a2 a1 a0 : CommandWord) &&& r.mask = r.pattern) ∧
        payload.length = payloadLength op (a1 ++ a0)) →
    step s = .next { s with inbox := rest, responses := ⟨.illegalCommand, 0, []⟩ :: s.responses }

/-! ## Steps -/

/-- An idle core with a legal message at the port runs exactly that command, on the state without the message; a hardware reset
that is coming has come one micro-operation nearer by the taking. What one step takes in, and that taking a message is one
micro-operation, is the model's choice: notes/assumptions/4.md and notes/assumptions/9.md. -/
def Obligations.StepRunsTheDecodedCommand : Prop :=
  ∀ (s : State) (m : Message) (rest : List Message) (i : Instr),
    s.busy = false → s.inbox = m :: rest → decode m = .ok i →
    (s.resetScript = [] → step s = exec i { s with inbox := rest }) ∧
    (∀ n later, s.resetScript = (n + 1) :: later →
      step s = exec i { s with inbox := rest, resetScript := n :: later })

/-- R301: while it has no command the core is idle and holds its state. -/
def Obligations.IdleStepHoldsTheState : Prop :=
  ∀ s : State, s.resetScript = [] → s.busy = false → s.inbox = [] → step s = .next s

/-- R296: every command is accepted in every state in which the ring's indices are in range: `exec` answers a next state,
never a fault and never a refusal. -/
def Obligations.EveryCommandIsAccepted : Prop :=
  ∀ (i : Instr) (s : State), s.rdi < s.cfg.capacity → s.wri < s.cfg.capacity → ∃ t, exec i s = .next t

/-- R12, R287: `raise` closes an open transaction, ends the command and answers with no payload; no register changes. -/
def Obligations.RaiseClosesAndAnswers : Prop :=
  ∀ (s : State) (status : Status) (info : Word),
    (s.raise status info).busMode = .idle ∧ (s.raise status info).busy = false ∧ (s.raise status info).todo = [] ∧
    (s.raise status info).responses = ⟨status, info, []⟩ :: s.responses ∧
    (s.raise status info).events = s.events ++ (if s.busMode = .idle then [] else [.closed]) ∧
    SameRegisters s (s.raise status info)

/-- R3, R90, R273: beginning a command either ends it with exactly one response, or leaves it in progress, with no response,
standing in one ready wait (that a step ends there is the model's choice: notes/assumptions/4.md). -/
def Obligations.CommandAnswersOnceOrWaits : Prop :=
  ∀ (i : Instr) (s t : State), s.resetScript = [] → exec i s = .next t →
    t.inbox = s.inbox ∧
    ((t.busy = false ∧ t.todo = [] ∧ ∃ r, t.responses = r :: s.responses) ∨
     (t.busy = true ∧ (∃ rest, t.todo = .prim .pollAgain :: rest) ∧ t.responses = s.responses))

/-- R3, R14, R90: a step of a command in progress takes no message, and answers exactly once, when the command ends. -/
def Obligations.BusyStepTakesNoMessage : Prop :=
  ∀ s t : State, s.resetScript = [] → s.busy = true → step s = .next t →
    t.inbox = s.inbox ∧
    ((t.busy = true ∧ t.responses = s.responses) ∨ (t.busy = false ∧ ∃ r, t.responses = r :: s.responses))

/-! ## The ready wait -/

/-- R164: a sample that reads 0 emits `POLL(0) YIELD` and leaves the command where it stands; only the poll count and the device's
used-up answer change. The count starts at 0 in every wait, so the first sample of a wait makes it 1 (a wait's first line, in
any command); every device command that `firstWait` names stands in the wait of its first transaction where that sample reads
0, and BEGIN, whose first sample is outside a wait, in that of its first sweep where its second sample does. A bound, where there is one, is not reached by that
sample. That a step ends there is the model's choice (notes/assumptions/4.md), as is what is counted
(notes/assumptions/24.md). -/
def Obligations.UnansweredWaitGoesOn : Prop :=
  (∀ (s : State) (rest : List Task), s.resetScript = [] → s.busy = true → s.todo = .prim .pollAgain :: rest →
    s.cfg.waitBound = none → s.pollAt 0 = false →
    step s = .next { s with
      pollScript := s.pollScript.tail, polled := s.polled + 1
      trace := .yield :: .poll false :: s.trace, seq := { s.seq with polls := s.seq.polls + 1 } }) ∧
  (∀ s : State, s.resetScript = [] → s.busy = true → s.todo = [] → (∀ k, s.cfg.waitBound = some k → 1 < k) →
    s.pollAt 0 = false →
    s.runPrim .wait = { s with
      todo := [.prim .pollAgain], pollScript := s.pollScript.tail, polled := s.polled + 1
      trace := .yield :: .poll false :: s.trace, seq := { s.seq with polls := 1 } }) ∧
  (∀ (i : Instr) (s : State) (m : Mode), firstWait s.cfg i = some m → s.resetScript = [] →
    (∀ k, s.cfg.waitBound = some k → 1 < k) → s.pollAt 0 = false →
    ∃ t, exec i s = .next t ∧ SameRegisters (s.withOperand i) t ∧
      StandsInWait s t m [.opened m, .poll false, .yield] 1) ∧
  (∀ s : State, 0 < s.cfg.sweepEnd → s.resetScript = [] → (∀ k, s.cfg.waitBound = some k → 1 < k) →
    s.pollAt 0 = true → s.pollAt 1 = false →
    ∃ t, exec .begin s = .next t ∧ SameRegisters s.created t ∧
      StandsInWait s t .ctrl (beginEvents s true ++ [.opened .ctrl, .poll false, .yield]) 2)

/-- R164: a sample that reads 1 ends the wait, with the event `POLL(1)` alone, and the rest of the command goes on in the
same step (the model's choice of a step: notes/assumptions/4.md); the same for the first sample of a wait. -/
def Obligations.AnsweredWaitGoesOn : Prop :=
  (∀ (s : State) (rest : List Task), s.resetScript = [] → s.busy = true → s.todo = .prim .pollAgain :: rest →
    s.pollAt 0 = true →
    step s = .next (State.runTasks { s with
      todo := [], pollScript := s.pollScript.tail, polled := s.polled + 1, trace := .poll true :: s.trace } rest)) ∧
  (∀ s : State, s.resetScript = [] → s.busy = true → s.todo = [] → s.pollAt 0 = true →
    s.runPrim .wait = { s with
      pollScript := s.pollScript.tail, polled := s.polled + 1, trace := .poll true :: s.trace
      seq := { s.seq with polls := 0 } })

/-- R171, R291, the hang: for every number of steps, a wait that sees only 0 leaves the command in progress, the transaction
open, no response sent and no message taken, and has emitted `POLL(0) YIELD` once a step (the model's choice of a step:
notes/assumptions/4.md). -/
def Obligations.WaitNeverAnsweredHangs : Prop :=
  ∀ (n : Nat) (s : State) (rest : List Task), s.resetScript = [] → s.busy = true →
    s.todo = .prim .pollAgain :: rest → s.cfg.waitBound = none → (∀ k, k < n → s.pollAt k = false) →
    ∃ t, Host.Core.run Sys2Proof.core n s = .next t ∧ t.busy = true ∧ t.todo = s.todo ∧ t.busMode = s.busMode ∧
      t.responses = s.responses ∧ t.inbox = s.inbox ∧ SameRegisters s t ∧
      t.events = s.events ++ (List.replicate n [.poll false, .yield]).flatten

/-- R165: with `WAIT_BOUND = k`, a sample that reads 0 goes on waiting as without a bound while it is not yet the `k`-th of the
wait to read 0; the `k`-th gives up after its `YIELD`: the transaction is closed and the command ends `BusTimeout` with
value 0. With `k = 1` that is the first sample of a wait, so a device command that `firstWait` names, and
BEGIN in its first sweep, ends with it where that sample reads 0. That a
sample which does not give up ends the step is the model's choice (notes/assumptions/4.md), and so is that the count is of the
samples that read 0, from 0 in each wait (notes/assumptions/24.md). -/
def Obligations.BoundedWaitTimesOut : Prop :=
  (∀ (s : State) (rest : List Task) (k : Nat), s.resetScript = [] → s.busy = true →
    s.todo = .prim .pollAgain :: rest → s.cfg.waitBound = some k → s.pollAt 0 = false →
    if s.seq.polls + 1 < k then
      step s = .next { s with
        pollScript := s.pollScript.tail, polled := s.polled + 1
        trace := .yield :: .poll false :: s.trace, seq := { s.seq with polls := s.seq.polls + 1 } }
    else
      ∃ t, step s = .next t ∧ SameRegisters s t ∧ t.busMode = .idle ∧
        Ended s t ⟨.busTimeout, 0, []⟩ ([.poll false, .yield] ++ (if s.busMode = .idle then [] else [.closed])) 1 0) ∧
  (∀ s : State, s.resetScript = [] → s.busy = true → s.todo = [] → s.cfg.waitBound = some 1 → s.pollAt 0 = false →
    SameRegisters s (s.runPrim .wait) ∧ (s.runPrim .wait).busMode = .idle ∧
      Ended s (s.runPrim .wait) ⟨.busTimeout, 0, []⟩
        ([.poll false, .yield] ++ (if s.busMode = .idle then [] else [.closed])) 1 0) ∧
  (∀ (i : Instr) (s : State) (m : Mode), firstWait s.cfg i = some m → s.resetScript = [] →
    s.cfg.waitBound = some 1 → s.pollAt 0 = false →
    ∃ t, exec i s = .next t ∧ SameRegisters (s.withOperand i) t ∧ t.busMode = .idle ∧
      Ended s t ⟨.busTimeout, 0, []⟩ [.opened m, .poll false, .yield, .closed] 1 0) ∧
  (∀ s : State, 0 < s.cfg.sweepEnd → s.resetScript = [] → s.cfg.waitBound = some 1 →
    s.pollAt 0 = true → s.pollAt 1 = false →
    ∃ t, exec .begin s = .next t ∧ SameRegisters s.created t ∧ t.busMode = .idle ∧
      Ended s t ⟨.busTimeout, 0, []⟩ (beginEvents s true ++ [.opened .ctrl, .poll false, .yield, .closed]) 2 0)

/-! ## RingBuffer -/

/-- R44, R131: RB_RESET zeroes the indices and the count and changes nothing else. -/
def Obligations.RbResetEmptiesTheRing : Prop :=
  ∀ s : State, s.resetScript = [] →
    ∃ t, exec .rbReset s = .next t ∧ SameRegisters { s with rdi := 0, wri := 0, cnt := 0 } t ∧
      t.busMode = s.busMode ∧ Ended s t ⟨.ok, 0, []⟩ [] 0 0 ∧ t.empty = true ∧ (1 ≤ s.cfg.capacity → t.full = false)

/-- R132, R133, R134: RB_SPACE, RB_AVAIL and RB_FREE answer from the count and change nothing. -/
def Obligations.RingQueriesAnswer : Prop :=
  ∀ s : State, s.resetScript = [] →
    (∃ t, exec .rbSpace s = .next t ∧ SameRegisters s t ∧ t.busMode = s.busMode ∧
      Ended s t ⟨.ok, if s.cnt < s.cfg.capacity then 1 else 0, []⟩ [] 0 0) ∧
    (∃ t, exec .rbAvail s = .next t ∧ SameRegisters s t ∧ t.busMode = s.busMode ∧
      Ended s t ⟨.ok, zext32 s.cnt, []⟩ [] 0 0) ∧
    (∃ t, exec .rbFree s = .next t ∧ SameRegisters s t ∧ t.busMode = s.busMode ∧
      Ended s t ⟨.ok, zext32 (s.cfg.capacity - s.cnt), []⟩ [] 0 0) ∧
    (∀ n, n < 2 ^ 32 → zext32 n = BitVec.ofNat 32 n)

/-- R136: RB_WRITE stores the chunk at `WRI × 32` in one store event, advances `WRI` modulo `CAPACITY` and counts it; on a full
ring it answers `BufferFull` and changes nothing. -/
def Obligations.RbWriteStoresOrReportsFull : Prop :=
  ∀ (s : State) (chunk : List Byte), s.resetScript = [] → s.busMode = .idle → chunk.length = 32 →
    s.wri < s.cfg.capacity →
    if s.cnt = s.cfg.capacity then
      ∃ t, exec (.rbWrite chunk) s = .next t ∧ SameRegisters s t ∧ t.busMode = .idle ∧
        Ended s t ⟨.bufferFull, 0, []⟩ [] 0 0
    else
      ∃ t, exec (.rbWrite chunk) s = .next t ∧
        (∀ j, j < 32 → chunk[j]? = some (t.storeByte (s.wri * 32 + j))) ∧
        (∀ a, a < s.wri * 32 ∨ s.wri * 32 + 32 ≤ a → t.storeByte a = s.storeByte a) ∧
        SameRegisters { s with wri := (s.wri + 1) % s.cfg.capacity, cnt := s.cnt + 1, store := t.store } t ∧
        t.busMode = .idle ∧ Ended s t ⟨.ok, 0, []⟩ [.storeWrite (s.wri * 32) chunk] 0 0 ∧
        t.empty = false ∧ (t.full = true ↔ s.cnt + 1 = s.cfg.capacity)

/-- R138: RB_READ answers with the 32 bytes at `RDI × 32` in one store event, advances `RDI` modulo `CAPACITY` and uncounts the
chunk, leaving the store as it is; on an empty ring it answers `BufferEmpty` and changes nothing. -/
def Obligations.RbReadLoadsOrReportsEmpty : Prop :=
  ∀ s : State, s.resetScript = [] → s.busMode = .idle → s.rdi < s.cfg.capacity → s.cnt ≤ s.cfg.capacity →
    if s.cnt = 0 then
      ∃ t, exec .rbRead s = .next t ∧ SameRegisters s t ∧ t.busMode = .idle ∧
        Ended s t ⟨.bufferEmpty, 0, []⟩ [] 0 0
    else
      ∃ t chunk, exec .rbRead s = .next t ∧ chunk.length = 32 ∧
        (∀ j, j < 32 → chunk[j]? = some (s.storeByte (s.rdi * 32 + j))) ∧
        SameRegisters { s with rdi := (s.rdi + 1) % s.cfg.capacity, cnt := s.cnt - 1 } t ∧ t.busMode = .idle ∧
        Ended s t ⟨.ok, 0, chunk⟩ [.storeRead (s.rdi * 32) chunk] 0 0 ∧
        t.full = false ∧ (t.empty = true ↔ s.cnt - 1 = 0)

/-- The model's own stop (notes/assumptions/16.md): where an index is not below `CAPACITY`, which no reachable state has, the
store address does not exist and the command stops with a fault. -/
def Obligations.RingIndexOutsideTheStoreFaults : Prop :=
  (∀ (s : State) (chunk : List Byte), s.cnt ≠ s.cfg.capacity → s.cfg.capacity ≤ s.wri →
    exec (.rbWrite chunk) s = .fault .storeAddress) ∧
  (∀ s : State, s.cnt ≠ 0 → s.cfg.capacity ≤ s.rdi → exec .rbRead s = .fault .storeAddress)

/-- R142: the ring is a bounded queue of chunks. -/
def Obligations.RingCommandsRefineTheQueue : Prop :=
  ∀ (s : State) (chunk : List Byte), s.Inv → s.busy = false → s.resetScript = [] → chunk.length = 32 →
    s.queue.length = s.cnt ∧
    (∃ t, exec (.rbWrite chunk) s = .next t ∧
      t.queue = if s.queue.length < s.cfg.capacity then s.queue ++ [chunk] else s.queue) ∧
    (∃ t, exec .rbRead s = .next t ∧ t.queue = s.queue.tail ∧
      (∀ c, s.queue.head? = some c → t.responses = ⟨.ok, 0, c⟩ :: s.responses)) ∧
    (∃ t, exec .rbReset s = .next t ∧ t.queue = []) ∧
    (∃ t, exec .rbSpace s = .next t ∧
      t.responses = ⟨.ok, if s.queue.length < s.cfg.capacity then 1 else 0, []⟩ :: s.responses) ∧
    (∃ t, exec .rbAvail s = .next t ∧ t.responses = ⟨.ok, zext32 s.queue.length, []⟩ :: s.responses) ∧
    (∃ t, exec .rbFree s = .next t ∧
      t.responses = ⟨.ok, zext32 (s.cfg.capacity - s.queue.length), []⟩ :: s.responses)

/-- R141, FIFO: over every sequence of ring commands, the payloads of the successful reads, then what the ring still holds, are
what it held at the start and then the payloads of the successful writes; and the count stays within the capacity. -/
def Obligations.RingIsFirstInFirstOut : Prop :=
  ∀ (cs : List RingCommand) (s : State), s.Inv → s.busy = false → s.resetScript = [] →
    (∀ chunk, RingCommand.write chunk ∈ cs → chunk.length = 32) →
    ∃ r, runRing cs s = some r ∧ r.reads ++ r.state.queue = s.queue ++ r.writes ∧ r.state.cnt ≤ s.cfg.capacity

/-! ## RegisterProtocol -/

/-- R183: REG_READ sends one read frame and answers the 16 bits received. -/
def Obligations.RegReadCompletes : Prop :=
  ∀ (s : State) (addr : Byte), DeviceReady s 2 →
    ∃ t, exec (.regRead addr) s = .next t ∧ SameRegisters s t ∧ t.busMode = .idle ∧
      Ended s t ⟨.ok, (readAt s 0).setWidth 32, []⟩ (readEvents s 0 addr) 2 4

/-- R184: REG_WRITE sends one write frame. -/
def Obligations.RegWriteCompletes : Prop :=
  ∀ (s : State) (addr : Byte) (value : Half), DeviceReady s 2 →
    ∃ t, exec (.regWrite addr value) s = .next t ∧ SameRegisters s t ∧ t.busMode = .idle ∧
      Ended s t ⟨.ok, 0, []⟩ (writeEvents s 0 addr value) 2 4

/-- R187: WRAM_READ writes the extended address to register 0x7, then reads register 0x6. -/
def Obligations.WramReadCompletes : Prop :=
  ∀ (s : State) (ext : Half), DeviceReady s 4 →
    ∃ t, exec (.wramRead ext) s = .next t ∧ SameRegisters s t ∧ t.busMode = .idle ∧
      Ended s t ⟨.ok, (readAt s 4).setWidth 32, []⟩ (wramReadEvents s 0 ext) 4 8

/-- R188: WRAM_WRITE writes the extended address to register 0x7, then the value to register 0x6. -/
def Obligations.WramWriteCompletes : Prop :=
  ∀ (s : State) (ext value : Half), DeviceReady s 4 →
    ∃ t, exec (.wramWrite ext value) s = .next t ∧ SameRegisters s t ∧ t.busMode = .idle ∧
      Ended s t ⟨.ok, 0, []⟩ (writeEvents s 0 0x07 ext ++ writeEvents s 4 0x06 value) 4 8

/-- R189: if the device answers the data bytes of the read frame with those of the write frame, REG_WRITE followed by REG_READ
of the same address returns the value, for every address and value. -/
def Obligations.EchoedRegisterReadsBack : Prop :=
  ∀ (s : State) (addr : Byte) (value : Half), DeviceReady s 4 → s.rxAt 6 = hiByte value → s.rxAt 7 = loByte value →
    ∃ t u, exec (.regWrite addr value) s = .next t ∧ exec (.regRead addr) t = .next u ∧
      u.responses = ⟨.ok, value.setWidth 32, []⟩ :: ⟨.ok, 0, []⟩ :: s.responses

/-- R190, R193: SELFTEST sends sample after sample, to the end of the sweep or to the 20th mismatch, after which no write
follows, and answers 1 exactly when no sample mismatched. -/
def Obligations.SelfTestReportsTheSweep : Prop :=
  ∀ (s : State) (fast : Bool), s.busMode = .idle →
    DeviceReady s (6 * sampleCount s.cfg (if fast then 3 else 300)) →
    ∃ t m, exec (.selfTest fast) s = .next t ∧
      SweepEnds s 0 (if fast then 3 else 300) (sampleCount s.cfg (if fast then 3 else 300)) m ∧
      SameRegisters s t ∧ t.busMode = .idle ∧
      Ended s t
        ⟨.ok, if sweepOK s 0 (if fast then 3 else 300) (sampleCount s.cfg (if fast then 3 else 300)) then 1 else 0, []⟩
        (sweepEvents s 0 (if fast then 3 else 300) m) (6 * m) (12 * m)

/-! ## StreamingWriter -/

/-- R203, R205, R207: PLAY_CHUNK streams its payload, SEND_FILL `n` and START_SONG `N_START_FILL` copies of `FILL`, each in one
data transaction with one wait before every burst of at most `SUBCHUNK_MAX` bytes. -/
def Obligations.StreamCommandsSendEveryByte : Prop :=
  ∀ (s : State), 1 ≤ s.cfg.subchunkMax →
    (∀ data : List Byte, DeviceReady s (streamPolls s.cfg data.length) →
      ∃ t, exec (.playChunk data) s = .next t ∧ SameRegisters s t ∧ t.busMode = .idle ∧
        Ended s t ⟨.ok, 0, []⟩ (streamEvents s 0 data.length (fun p => data.getD p 0))
          (streamPolls s.cfg data.length) data.length) ∧
    (∀ n : Half, DeviceReady s (streamPolls s.cfg n.toNat) →
      ∃ t, exec (.sendFill n) s = .next t ∧ SameRegisters s t ∧ t.busMode = .idle ∧
        Ended s t ⟨.ok, 0, []⟩ (streamEvents s 0 n.toNat (fun _ => s.fill)) (streamPolls s.cfg n.toNat) n.toNat) ∧
    (DeviceReady s (streamPolls s.cfg s.cfg.nStartFill) →
      ∃ t, exec .startSong s = .next t ∧ SameRegisters s t ∧ t.busMode = .idle ∧
        Ended s t ⟨.ok, 0, []⟩ (streamEvents s 0 s.cfg.nStartFill (fun _ => s.fill))
          (streamPolls s.cfg s.cfg.nStartFill) s.cfg.nStartFill)

/-- R206: a stream of length zero emits `OPEN(DATA) CLOSE`, with no wait and no transfer, whatever the device does. -/
def Obligations.EmptyStreamCannotBlock : Prop :=
  ∀ s : State, s.resetScript = [] →
    (∃ t, exec (.playChunk []) s = .next t ∧ SameRegisters s t ∧ t.busMode = .idle ∧
      Ended s t ⟨.ok, 0, []⟩ [.opened .data, .closed] 0 0) ∧
    (∃ t, exec (.sendFill 0) s = .next t ∧ SameRegisters s t ∧ t.busMode = .idle ∧
      Ended s t ⟨.ok, 0, []⟩ [.opened .data, .closed] 0 0)

/-- R210: STOP_SONG ends in the first round `i` whose mode read has the cancel bit clear, with a second big burst, the value
`i`, and that read in `MODEMIR`. -/
def Obligations.StopSongEndsWhenTheBitClears : Prop :=
  ∀ (s : State) (i : Nat), 1 ≤ s.cfg.subchunkMax → i < s.cfg.stopBudget →
    (∀ j, j < i → cancelAt s j = true) → cancelAt s i = false →
    DeviceReady s (stopPolls s.cfg (i + 1) + streamPolls s.cfg s.cfg.nStopBig) →
    ∃ t, exec .stopSong s = .next t ∧ SameRegisters { s with modeMir := modeAt s i } t ∧ t.busMode = .idle ∧
      Ended s t ⟨.ok, zext32 i, []⟩
        (stopEvents s (i + 1) ++ streamEvents s (roundStart s.cfg (i + 1)) s.cfg.nStopBig (fun _ => s.fill))
        (stopPolls s.cfg (i + 1) + streamPolls s.cfg s.cfg.nStopBig)
        (roundStart s.cfg (i + 1) + s.cfg.nStopBig)

/-- R210, R211: STOP_SONG whose every round reads the cancel bit set ends `StopIncomplete` with the budget as value, after
`STOP_BUDGET` rounds and no second big burst; `MODEMIR` holds the last read, or is as before where the budget is 0. -/
def Obligations.StopSongReportsAnExhaustedBudget : Prop :=
  ∀ s : State, 1 ≤ s.cfg.subchunkMax → (∀ j, j < s.cfg.stopBudget → cancelAt s j = true) →
    DeviceReady s (stopPolls s.cfg s.cfg.stopBudget) →
    ∃ t, exec .stopSong s = .next t ∧
      SameRegisters
        { s with modeMir := if s.cfg.stopBudget = 0 then s.modeMir else modeAt s (s.cfg.stopBudget - 1) } t ∧
      t.busMode = .idle ∧
      Ended s t ⟨.stopIncomplete, zext32 s.cfg.stopBudget, []⟩ (stopEvents s s.cfg.stopBudget)
        (stopPolls s.cfg s.cfg.stopBudget) (roundStart s.cfg s.cfg.stopBudget)

/-! ## PatchLoader -/

/-- R221, R224, R225: LOAD_PATCH of any sequence of records issues exactly their writes, in order, each its own transaction,
every write of a record at the record's one address, and answers how many there were. -/
def Obligations.LoadPatchWritesEveryRecord : Prop :=
  ∀ (s : State) (records : List PatchRecord), (∀ r ∈ records, r.valid = true) →
    DeviceReady s (2 * (records.flatMap PatchRecord.writes).length) →
    ∃ t, exec (.loadPatch (records.flatMap PatchRecord.words)) s = .next t ∧ SameRegisters s t ∧
      (s.busMode = .idle → t.busMode = .idle) ∧
      Ended s t ⟨.ok, zext32 (records.flatMap PatchRecord.writes).length, []⟩
        (writesEvents s 0 (records.flatMap PatchRecord.writes))
        (2 * (records.flatMap PatchRecord.writes).length) (4 * (records.flatMap PatchRecord.writes).length)

/-- R222, R223: records followed by words that are no record end `PatchFormatError` with the word index at which the refused
record starts; the writes of the records before it have gone out, and none of its own. -/
def Obligations.LoadPatchRefusesAMalformedRecord : Prop :=
  ∀ (s : State) (records : List PatchRecord) (tail : List Half), s.busMode = .idle →
    (∀ r ∈ records, r.valid = true) → Malformed tail →
    DeviceReady s (2 * (records.flatMap PatchRecord.writes).length) →
    ∃ t, exec (.loadPatch (records.flatMap PatchRecord.words ++ tail)) s = .next t ∧ SameRegisters s t ∧
      t.busMode = .idle ∧
      Ended s t ⟨.patchFormatError, zext32 (records.flatMap PatchRecord.words).length, []⟩
        (writesEvents s 0 (records.flatMap PatchRecord.writes))
        (2 * (records.flatMap PatchRecord.writes).length) (4 * (records.flatMap PatchRecord.writes).length)

/-- R227, the document's two records: five writes of 0x1234 to address 0x10; three writes in order to address 0x20. -/
def Obligations.LoadPatchDocumentRecords : Prop :=
  ∀ s : State, DeviceReady s 10 →
    (∃ t, exec (.loadPatch [0x0010, 0x8005, 0x1234]) s = .next t ∧
      t.events = s.events ++ writesEvents s 0 (List.replicate 5 (0x10, 0x1234)) ∧
      t.responses = ⟨.ok, 5, []⟩ :: s.responses) ∧
    (∃ t, exec (.loadPatch [0x0020, 0x0003, 0x0001, 0x0002, 0x0003]) s = .next t ∧
      t.events = s.events ++ writesEvents s 0 [(0x20, 0x0001), (0x20, 0x0002), (0x20, 0x0003)] ∧
      t.responses = ⟨.ok, 3, []⟩ :: s.responses)

/-! ## PlaybackController: bring-up -/

/-- R238, R241: BEGIN whose one sample of the ready line reads 0 switches the pull-up on, sends nothing, and ends degraded and
ready with value 4. -/
def Obligations.BeginWithoutReadyLineIsDegraded : Prop :=
  ∀ s : State, s.resetScript = [] → s.pollAt 0 = false →
    ∃ t, exec .begin s = .next t ∧
      SameRegisters { s.created with rdyPull := true, degraded := true, ready := true } t ∧ t.busMode = s.busMode ∧
      Ended s t ⟨.ok, 4, []⟩ (beginEvents s false ++ [.pullupOn]) 1 0

/-- R241: BEGIN whose low-speed self-test fails sends nothing after it, keeps the bus at low speed and `FILL` at 0, and ends
degraded and ready with value 0. -/
def Obligations.BeginFailingAtLowSpeedIsDegraded : Prop :=
  ∀ s : State, DeviceReady s (1 + 6 * sampleCount s.cfg 300) → sweepOK s 0 300 (sampleCount s.cfg 300) = false →
    ∃ t m, exec .begin s = .next t ∧ SweepEnds s 0 300 (sampleCount s.cfg 300) m ∧
      SameRegisters { s.created with degraded := true, ready := true } t ∧ t.busMode = .idle ∧
      Ended s t ⟨.ok, 0, []⟩ (beginEvents s true ++ sweepEvents s 0 300 m) (1 + 6 * m) (12 * m)

/-- R239, R240, R242: BEGIN whose two self-tests pass sends the three configuration writes and raises the speed between them, in
the document's order, keeps the low byte read at `FILL_ADDR`, and ends ready with value 3. -/
def Obligations.BeginBringsTheDeviceUp : Prop :=
  ∀ s : State,
    DeviceReady s (1 + 6 * sampleCount s.cfg 300 + 6 + 6 * sampleCount s.cfg 3 + 4) →
    sweepOK s 0 300 (sampleCount s.cfg 300) = true →
    sweepOK s (12 * sampleCount s.cfg 300 + 12) 3 (sampleCount s.cfg 3) = true →
    ∃ t, exec .begin s = .next t ∧
      SameRegisters { s.created with
        fill := loByte (readAt s (12 * sampleCount s.cfg 300 + 12 + 12 * sampleCount s.cfg 3 + 4))
        busSpd := .high, ready := true } t ∧ t.busMode = .idle ∧
      Ended s t ⟨.ok, 3, []⟩
        (beginEvents s true ++ sweepEvents s 0 300 (sampleCount s.cfg 300) ++
          configEvents s (12 * sampleCount s.cfg 300) ++
          sweepEvents s (12 * sampleCount s.cfg 300 + 12) 3 (sampleCount s.cfg 3) ++
          wramReadEvents s (12 * sampleCount s.cfg 300 + 12 + 12 * sampleCount s.cfg 3) s.cfg.fillAddr)
        (1 + 6 * sampleCount s.cfg 300 + 6 + 6 * sampleCount s.cfg 3 + 4)
        (12 * sampleCount s.cfg 300 + 12 + 12 * sampleCount s.cfg 3 + 8)

/-- R239, R242: BEGIN whose high-speed self-test alone fails records it in `HSFAIL`, still reads the fill byte, and ends ready
with value 1. -/
def Obligations.BeginFailingAtHighSpeedGoesOn : Prop :=
  ∀ s : State,
    DeviceReady s (1 + 6 * sampleCount s.cfg 300 + 6 + 6 * sampleCount s.cfg 3 + 4) →
    sweepOK s 0 300 (sampleCount s.cfg 300) = true →
    sweepOK s (12 * sampleCount s.cfg 300 + 12) 3 (sampleCount s.cfg 3) = false →
    ∃ t m, exec .begin s = .next t ∧
      SweepEnds s (12 * sampleCount s.cfg 300 + 12) 3 (sampleCount s.cfg 3) m ∧
      SameRegisters { s.created with
        fill := loByte (readAt s (12 * sampleCount s.cfg 300 + 12 + 12 * m + 4))
        busSpd := .high, ready := true, hsFail := true } t ∧ t.busMode = .idle ∧
      Ended s t ⟨.ok, 1, []⟩
        (beginEvents s true ++ sweepEvents s 0 300 (sampleCount s.cfg 300) ++
          configEvents s (12 * sampleCount s.cfg 300) ++ sweepEvents s (12 * sampleCount s.cfg 300 + 12) 3 m ++
          wramReadEvents s (12 * sampleCount s.cfg 300 + 12 + 12 * m) s.cfg.fillAddr)
        (1 + 6 * sampleCount s.cfg 300 + 6 + 6 * m + 4) (12 * sampleCount s.cfg 300 + 12 + 12 * m + 8)

/-! ## PlaybackController: volume, balance, tone, diagnostics, time, rate -/

/-- R244, R245: the two bytes of the volume value from the two levels: 0xFE for level 0 down to 0x00 for level 100. The
rounding between the ends and the left byte being the high one are the spec's own rules, which it marks as general knowledge
(notes/assumptions/12.md). -/
def Obligations.VolumeValueFromTheLevels : Prop :=
  ∀ (vol : Nat) (bal : Int), vol ≤ 100 → -100 ≤ bal → bal ≤ 100 →
    (hiByte (volValue vol bal)).toNat = 254 - 254 * (if 0 < bal then max 0 ((vol : Int) - bal) else vol).toNat / 100 ∧
    (loByte (volValue vol bal)).toNat = 254 - 254 * (if bal < 0 then max 0 ((vol : Int) - bal.natAbs) else vol).toNat / 100

/-- R247: SET_VOLUME up to 100 becomes `VOL` and its register value is written and answered; above 100 it answers `ArgRange`
with its operand field, and nothing is written or sent. -/
def Obligations.SetVolumeCompletes : Prop :=
  ∀ (s : State) (v : Byte),
    if v.toNat ≤ 100 then
      DeviceReady s 2 →
      ∃ t, exec (.setVolume v) s = .next t ∧ SameRegisters { s with vol := v.toNat } t ∧ t.busMode = .idle ∧
        Ended s t ⟨.ok, (volValue v.toNat s.bal).setWidth 32, []⟩
          (writeEvents s 0 s.cfg.regVol (volValue v.toNat s.bal)) 2 4
    else
      s.resetScript = [] → s.busMode = .idle →
      ∃ t, exec (.setVolume v) s = .next t ∧ SameRegisters s t ∧ t.busMode = .idle ∧
        Ended s t ⟨.argRange, v.setWidth 32, []⟩ [] 0 0

/-- R248: SET_BALANCE from -100 to 100 becomes `BAL` and its register value is written and answered; outside that it answers
`ArgRange` with its operand field, and nothing is written or sent. -/
def Obligations.SetBalanceCompletes : Prop :=
  ∀ (s : State) (b : Byte),
    if -100 ≤ b.toInt ∧ b.toInt ≤ 100 then
      DeviceReady s 2 →
      ∃ t, exec (.setBalance b) s = .next t ∧ SameRegisters { s with bal := b.toInt } t ∧ t.busMode = .idle ∧
        Ended s t ⟨.ok, (volValue s.vol b.toInt).setWidth 32, []⟩
          (writeEvents s 0 s.cfg.regVol (volValue s.vol b.toInt)) 2 4
    else
      s.resetScript = [] → s.busMode = .idle →
      ∃ t, exec (.setBalance b) s = .next t ∧ SameRegisters s t ∧ t.busMode = .idle ∧
        Ended s t ⟨.argRange, b.setWidth 32, []⟩ [] 0 0

/-- R249, the document's three examples: the register value that SET_VOLUME and then SET_BALANCE send last. -/
def Obligations.VolumeDocumentExamples : Prop :=
  ∀ (s : State) (v b : Byte) (value : Half), DeviceReady s 4 →
    (v, b, value) ∈ [((100, 0, 0x0000) : Byte × Byte × Half), (0, 0, 0xFEFE), (50, 100, 0xFE7F)] →
    ∃ t u, exec (.setVolume v) s = .next t ∧ exec (.setBalance b) t = .next u ∧
      u.events = t.events ++ writeEvents s 4 s.cfg.regVol value

/-- R252: SET_TONE packs its nibbles, the first highest, into `TONE` and one register write. -/
def Obligations.SetToneCompletes : Prop :=
  ∀ (s : State) (n0 n1 n2 n3 : Nibble), DeviceReady s 2 →
    ∃ t, exec (.setTone n0 n1 n2 n3) s = .next t ∧ SameRegisters { s with tone := n0 ++ n1 ++ n2 ++ n3 } t ∧
      t.busMode = .idle ∧
      Ended s t ⟨.ok, (n0 ++ n1 ++ n2 ++ n3 : Half).setWidth 32, []⟩
        (writeEvents s 0 s.cfg.regTone (n0 ++ n1 ++ n2 ++ n3)) 2 4

/-- R255: IS_CONNECTED answers 1 exactly when the status register reads neither 0x0000 nor 0xFFFF. -/
def Obligations.IsConnectedCompletes : Prop :=
  ∀ s : State, DeviceReady s 2 →
    ∃ t, exec .isConnected s = .next t ∧ SameRegisters s t ∧ t.busMode = .idle ∧
      Ended s t ⟨.ok, if readAt s 0 ≠ 0x0000 ∧ readAt s 0 ≠ 0xFFFF then 1 else 0, []⟩
        (readEvents s 0 s.cfg.regStatus) 2 4

/-- R257: GET_TIME answers the decode-time register, zero-extended. -/
def Obligations.GetTimeCompletes : Prop :=
  ∀ s : State, DeviceReady s 2 →
    ∃ t, exec .getTime s = .next t ∧ SameRegisters s t ∧ t.busMode = .idle ∧
      Ended s t ⟨.ok, (readAt s 0).setWidth 32, []⟩ (readEvents s 0 s.cfg.regTime) 2 4

/-- R258: CLR_TIME issues exactly two zero-value writes to the decode-time register. -/
def Obligations.ClrTimeWritesZeroTwice : Prop :=
  ∀ s : State, DeviceReady s 4 →
    ∃ t, exec .clrTime s = .next t ∧ SameRegisters s t ∧ t.busMode = .idle ∧
      Ended s t ⟨.ok, 0, []⟩ (writeEvents s 0 s.cfg.regTime 0 ++ writeEvents s 4 s.cfg.regTime 0) 4 8

/-- R262: the seven transactions of ADJ_RATE, low half first, and the sample-rate register written back as read. Their number
and order are the spec's decision D27, which it marks as general knowledge (notes/assumptions/13.md). -/
def Obligations.AdjRateCompletes : Prop :=
  ∀ (s : State) (ppm : Word), DeviceReady s 14 →
    ∃ t, exec (.adjRate ppm) s = .next t ∧ SameRegisters s t ∧ t.busMode = .idle ∧
      Ended s t ⟨.ok, 0, []⟩
        (writeEvents s 0 0x07 s.cfg.rateCell ++ writeEvents s 4 0x06 (ppm.extractLsb' 0 16) ++
          writeEvents s 8 0x06 (ppm.extractLsb' 16 16) ++ writeEvents s 12 0x07 s.cfg.clockrefCell ++
          writeEvents s 16 0x06 s.cfg.clockrefInvalid ++ readEvents s 20 s.cfg.regSrate ++
          writeEvents s 24 s.cfg.regSrate (readAt s 20)) 14 28

/-! ## System -/

/-- R40: the bits of `STATUS`. -/
def Obligations.StatusBitsAreTheFlags : Prop :=
  ∀ s : State,
    s.status.getLsbD 0 = s.ready ∧ s.status.getLsbD 1 = s.degraded ∧ s.status.getLsbD 2 = s.hsFail ∧
    s.status.getLsbD 3 = s.rdyPull ∧ (s.status.getLsbD 4 = true ↔ s.busSpd = .high) ∧
    (s.status.getLsbD 5 = true ↔ s.cnt = s.cfg.capacity) ∧ (s.status.getLsbD 6 = true ↔ s.cnt = 0) ∧
    (∀ k, 7 ≤ k → s.status.getLsbD k = false)

/-- R270, R271: GET_REG answers internal register `k` for `k` up to 9 and `ArgRange` with its operand field above, and changes
nothing. -/
def Obligations.GetRegCompletes : Prop :=
  ∀ s : State, s.resetScript = [] →
    (∀ p ∈ [((0, zext32 s.rdi) : Byte × Word), (1, zext32 s.wri), (2, zext32 s.cnt), (3, zext32 s.vol),
        (4, BitVec.ofInt 32 s.bal), (5, s.tone.setWidth 32), (6, s.fill.setWidth 32), (7, s.modeMir.setWidth 32),
        (8, s.status), (9, zext32 s.cfg.capacity)],
      ∃ t, exec (.getReg p.1) s = .next t ∧ SameRegisters s t ∧ t.busMode = s.busMode ∧
        Ended s t ⟨.ok, p.2, []⟩ [] 0 0) ∧
    (∀ k : Byte, 9 < k.toNat → s.busMode = .idle →
      ∃ t, exec (.getReg k) s = .next t ∧ SameRegisters s t ∧ t.busMode = .idle ∧
        Ended s t ⟨.argRange, k.setWidth 32, []⟩ [] 0 0)

/-! ## Rules over all commands -/

/-- R47: a command that is not in an element's row leaves the element unchanged at every step from its beginning to its response
(`CommandRun`), and `BUSMODE` is `IDLE` again when the command ends; and a step of any command in progress leaves the ring, the
store, `VOL`, `BAL`, `TONE` and `RDYPULL` unchanged. -/
def Obligations.OnlyTheNamedCommandsWrite : Prop :=
  (∀ (i : Instr) (s t u : State), s.resetScript = [] → exec i s = .next t → CommandRun t u →
    u.cfg = s.cfg ∧
    (i ≠ .rbReset → i ≠ .rbRead → u.rdi = s.rdi) ∧
    (i ≠ .rbReset → (∀ c, i ≠ .rbWrite c) → u.wri = s.wri) ∧
    (i ≠ .rbReset → (∀ c, i ≠ .rbWrite c) → i ≠ .rbRead → u.cnt = s.cnt) ∧
    ((∀ c, i ≠ .rbWrite c) → ∀ a, u.storeByte a = s.storeByte a) ∧
    ((∀ v, i ≠ .setVolume v) → i ≠ .begin → u.vol = s.vol) ∧
    ((∀ b, i ≠ .setBalance b) → i ≠ .begin → u.bal = s.bal) ∧
    ((∀ a b c d, i ≠ .setTone a b c d) → i ≠ .begin → u.tone = s.tone) ∧
    (i ≠ .begin → u.fill = s.fill) ∧
    (i ≠ .stopSong → i ≠ .begin → u.modeMir = s.modeMir) ∧
    (i ≠ .begin → u.busSpd = s.busSpd ∧ u.rdyPull = s.rdyPull ∧ u.ready = s.ready ∧ u.degraded = s.degraded ∧
      u.hsFail = s.hsFail) ∧
    (s.busMode = .idle → u.busy = false → u.busMode = .idle)) ∧
  (∀ s t : State, s.Inv → s.busy = true → s.resetScript = [] → step s = .next t →
    t.cfg = s.cfg ∧ t.rdi = s.rdi ∧ t.wri = s.wri ∧ t.cnt = s.cnt ∧ (∀ a, t.storeByte a = s.storeByte a) ∧
    t.vol = s.vol ∧ t.bal = s.bal ∧ t.tone = s.tone ∧ t.rdyPull = s.rdyPull)

/-- R80: no command uses both ports: the six ring commands touch only the store, every other command only the device bus, in
beginning and in every later step. -/
def Obligations.StoreAndBusPortsAreSeparate : Prop :=
  (∀ (i : Instr) (s t : State), s.resetScript = [] → s.busMode = .idle → exec i s = .next t →
    ∃ evs, t.events = s.events ++ evs ∧ (∀ e ∈ evs, e.atStore = isRingCommand i)) ∧
  (∀ s t : State, s.Inv → s.busy = true → s.resetScript = [] → step s = .next t →
    ∃ evs, t.events = s.events ++ evs ∧ (∀ e ∈ evs, e.atStore = false))

/-- R296: no command is gated by `READY`, `DEGRADED` or `HSFAIL`: with other values of them every command but BEGIN, which sets
them, and GET_REG 8, which reads them, does exactly the same. -/
def Obligations.NoCommandIsGatedByStatus : Prop :=
  ∀ (i : Instr) (s : State) (ready degraded hsFail : Bool), s.resetScript = [] → i ≠ .begin → i ≠ .getReg 8 →
    exec i (s.withStatusBits ready degraded hsFail) =
      mapNext (fun t => t.withStatusBits ready degraded hsFail) (exec i s)
end

