-- ==== Sys2Proof/Laws/Memory.lean ====
section
/-!
SUPPORT. The laws of the store: what a write reads back as, and that every memory operation keeps the canonical form.
-/

namespace Sys2Proof.Machine

@[simp] theorem Memory.read_nil (a : Nat) : Memory.read [] a = none := rfl

@[simp] theorem Memory.read_cons (b a : Nat) (w : Byte) (rest : Memory) :
    Memory.read ((b, w) :: rest) a = if a = b then some w else Memory.read rest a := rfl

/-- A read after a write to the same address gives the byte written. -/
@[simp] theorem Memory.read_write_same (m : Memory) (a : Nat) (v : Byte) : (m.write a v).read a = some v := by
  induction m with
  | nil => simp [Memory.write]
  | cons c rest ih =>
    obtain ⟨b, w⟩ := c
    unfold Memory.write
    split
    · simp
    · split
      · simp
      · next h => simp [h, ih]

/-- A write leaves every other address alone. -/
theorem Memory.read_write_other (m : Memory) {a b : Nat} (v : Byte) (h : b ≠ a) : (m.write a v).read b = m.read b := by
  induction m with
  | nil => simp [Memory.write, h]
  | cons c rest ih =>
    obtain ⟨d, w⟩ := c
    unfold Memory.write
    split
    · simp [h]
    · split
      · next hd => subst hd; simp [h]
      · simp [ih]

/-- Bytes written at rising addresses: an address outside them reads as before. -/
theorem Memory.read_writeBytes_outside (m : Memory) (a b : Nat) (bs : List Byte) (h : b < a ∨ a + bs.length ≤ b) :
    (m.writeBytes a bs).read b = m.read b := by
  induction bs generalizing m a with
  | nil => rfl
  | cons v vs ih =>
    simp only [Memory.writeBytes]
    rw [ih (m.write a v) (a + 1) (by simp at h; omega), Memory.read_write_other _ _ (by simp at h; omega)]

/-- Bytes written at rising addresses: byte `j` reads back at `a + j`. -/
theorem Memory.read_writeBytes_inside (m : Memory) (a j : Nat) (bs : List Byte) (h : j < bs.length) :
    (m.writeBytes a bs).read (a + j) = bs[j]? := by
  induction bs generalizing m a j with
  | nil => simp at h
  | cons v vs ih =>
    simp only [Memory.writeBytes]
    cases j with
    | zero => rw [Memory.read_writeBytes_outside _ _ _ _ (by omega)]; simp
    | succ k =>
      have := ih (m.write a v) (a + 1) k (by simpa using h)
      rw [show a + (k + 1) = a + 1 + k by omega, this]
      simp

/-- The addresses of a memory in canonical form lie above its first. -/
theorem Memory.wf_cons_iff (a : Nat) (v : Byte) (rest : Memory) :
    Memory.wf ((a, v) :: rest) = true ↔ (∀ c ∈ rest.head?, a < c.1) ∧ Memory.wf rest = true := by
  cases rest with
  | nil => simp [Memory.wf]
  | cons c r => obtain ⟨b, w⟩ := c; simp [Memory.wf]

/-- Writing one byte keeps the canonical form. -/
theorem Memory.wf_write (m : Memory) (a : Nat) (v : Byte) (h : m.wf = true) : (m.write a v).wf = true := by
  induction m with
  | nil => rfl
  | cons c rest ih =>
    obtain ⟨b, w⟩ := c
    rw [Memory.wf_cons_iff] at h
    unfold Memory.write
    split
    · next hab => rw [Memory.wf_cons_iff, Memory.wf_cons_iff]; exact ⟨by simpa using hab, h⟩
    · split
      · next hab => subst hab; simpa [Memory.wf_cons_iff] using h
      · next h1 h2 =>
        rw [Memory.wf_cons_iff]
        refine ⟨?_, ih h.2⟩
        cases rest with
        | nil => simp [Memory.write]; omega
        | cons d r =>
          obtain ⟨e, x⟩ := d
          have : b < e := by simpa using h.1
          unfold Memory.write
          split
          · simp; omega
          · split <;> simp <;> omega

/-- Writing bytes keeps the canonical form. -/
theorem Memory.wf_writeBytes (m : Memory) (a : Nat) (bs : List Byte) (h : m.wf = true) : (m.writeBytes a bs).wf = true := by
  induction bs generalizing m a with
  | nil => exact h
  | cons v vs ih => exact ih _ _ (Memory.wf_write m a v h)

/-- The memory of the reset state is in canonical form. -/
theorem Memory.wf_reset : Memory.wf State.reset.store = true := rfl

/-- Which cells a write leaves: the new one and old ones. -/
theorem Memory.mem_write {m : Memory} {a : Nat} {v : Byte} {c : Host.Cell} (h : c ∈ m.write a v) : c = (a, v) ∨ c ∈ m := by
  induction m with
  | nil => simpa [Memory.write] using h
  | cons d rest ih =>
    obtain ⟨b, w⟩ := d
    unfold Memory.write at h
    split at h
    · simpa using h
    · split at h
      · simp at h; tauto
      · simp at h
        rcases h with h | h
        · simp [h]
        · rcases ih h with h | h <;> simp [h]

/-- Which addresses bytes written can add. -/
theorem Memory.mem_writeBytes {m : Memory} {a : Nat} {bs : List Byte} {c : Host.Cell} (h : c ∈ m.writeBytes a bs) :
    (a ≤ c.1 ∧ c.1 < a + bs.length) ∨ c ∈ m := by
  induction bs generalizing m a with
  | nil => exact .inr h
  | cons v vs ih =>
    rcases ih h with h | h
    · left; simp; omega
    · rcases Memory.mem_write h with h | h
      · left; simp [h]
      · exact .inr h

/-- What `MemRead` returns is as long as asked. -/
@[simp] theorem memRead_length (s : State) (a n : Nat) : (s.memRead a n).length = n := by simp [State.memRead]

end Sys2Proof.Machine
end

