-- ==== Sys2Proof/Laws/State.lean ====
section
/-!
SUPPORT. One lemma per field of the state and per update of Machine/Ops.lean, true by unfolding once, so that no later proof
unfolds a record update.
-/

namespace Sys2Proof.Machine

variable (s : State)

/-! ### `emit` -/

@[simp] theorem emit_cfg (e : Event) : (s.emit e).cfg = s.cfg := rfl
@[simp] theorem emit_rdi (e : Event) : (s.emit e).rdi = s.rdi := rfl
@[simp] theorem emit_wri (e : Event) : (s.emit e).wri = s.wri := rfl
@[simp] theorem emit_cnt (e : Event) : (s.emit e).cnt = s.cnt := rfl
@[simp] theorem emit_store (e : Event) : (s.emit e).store = s.store := rfl
@[simp] theorem emit_vol (e : Event) : (s.emit e).vol = s.vol := rfl
@[simp] theorem emit_bal (e : Event) : (s.emit e).bal = s.bal := rfl
@[simp] theorem emit_tone (e : Event) : (s.emit e).tone = s.tone := rfl
@[simp] theorem emit_fill (e : Event) : (s.emit e).fill = s.fill := rfl
@[simp] theorem emit_modeMir (e : Event) : (s.emit e).modeMir = s.modeMir := rfl
@[simp] theorem emit_busMode (e : Event) : (s.emit e).busMode = s.busMode := rfl
@[simp] theorem emit_busSpd (e : Event) : (s.emit e).busSpd = s.busSpd := rfl
@[simp] theorem emit_rdyPull (e : Event) : (s.emit e).rdyPull = s.rdyPull := rfl
@[simp] theorem emit_ready (e : Event) : (s.emit e).ready = s.ready := rfl
@[simp] theorem emit_degraded (e : Event) : (s.emit e).degraded = s.degraded := rfl
@[simp] theorem emit_hsFail (e : Event) : (s.emit e).hsFail = s.hsFail := rfl
@[simp] theorem emit_pulse (e : Event) : (s.emit e).pulse = s.pulse := rfl
@[simp] theorem emit_busy (e : Event) : (s.emit e).busy = s.busy := rfl
@[simp] theorem emit_todo (e : Event) : (s.emit e).todo = s.todo := rfl
@[simp] theorem emit_seq (e : Event) : (s.emit e).seq = s.seq := rfl
@[simp] theorem emit_inbox (e : Event) : (s.emit e).inbox = s.inbox := rfl
@[simp] theorem emit_resetScript (e : Event) : (s.emit e).resetScript = s.resetScript := rfl
@[simp] theorem emit_pollScript (e : Event) : (s.emit e).pollScript = s.pollScript := rfl
@[simp] theorem emit_polled (e : Event) : (s.emit e).polled = s.polled := rfl
@[simp] theorem emit_rxScript (e : Event) : (s.emit e).rxScript = s.rxScript := rfl
@[simp] theorem emit_clocked (e : Event) : (s.emit e).clocked = s.clocked := rfl
@[simp] theorem emit_resets (e : Event) : (s.emit e).resets = s.resets := rfl
@[simp] theorem emit_trace (e : Event) : (s.emit e).trace = e :: s.trace := rfl
@[simp] theorem emit_responses (e : Event) : (s.emit e).responses = s.responses := rfl

/-! ### `samplePoll` -/

@[simp] theorem samplePoll_cfg : s.samplePoll.cfg = s.cfg := rfl
@[simp] theorem samplePoll_rdi : s.samplePoll.rdi = s.rdi := rfl
@[simp] theorem samplePoll_wri : s.samplePoll.wri = s.wri := rfl
@[simp] theorem samplePoll_cnt : s.samplePoll.cnt = s.cnt := rfl
@[simp] theorem samplePoll_store : s.samplePoll.store = s.store := rfl
@[simp] theorem samplePoll_vol : s.samplePoll.vol = s.vol := rfl
@[simp] theorem samplePoll_bal : s.samplePoll.bal = s.bal := rfl
@[simp] theorem samplePoll_tone : s.samplePoll.tone = s.tone := rfl
@[simp] theorem samplePoll_fill : s.samplePoll.fill = s.fill := rfl
@[simp] theorem samplePoll_modeMir : s.samplePoll.modeMir = s.modeMir := rfl
@[simp] theorem samplePoll_busMode : s.samplePoll.busMode = s.busMode := rfl
@[simp] theorem samplePoll_busSpd : s.samplePoll.busSpd = s.busSpd := rfl
@[simp] theorem samplePoll_rdyPull : s.samplePoll.rdyPull = s.rdyPull := rfl
@[simp] theorem samplePoll_ready : s.samplePoll.ready = s.ready := rfl
@[simp] theorem samplePoll_degraded : s.samplePoll.degraded = s.degraded := rfl
@[simp] theorem samplePoll_hsFail : s.samplePoll.hsFail = s.hsFail := rfl
@[simp] theorem samplePoll_pulse : s.samplePoll.pulse = s.pulse := rfl
@[simp] theorem samplePoll_busy : s.samplePoll.busy = s.busy := rfl
@[simp] theorem samplePoll_todo : s.samplePoll.todo = s.todo := rfl
@[simp] theorem samplePoll_seq : s.samplePoll.seq = s.seq := rfl
@[simp] theorem samplePoll_inbox : s.samplePoll.inbox = s.inbox := rfl
@[simp] theorem samplePoll_resetScript : s.samplePoll.resetScript = s.resetScript := rfl
@[simp] theorem samplePoll_pollScript : s.samplePoll.pollScript = s.pollScript.tail := rfl
@[simp] theorem samplePoll_polled : s.samplePoll.polled = s.polled + 1 := rfl
@[simp] theorem samplePoll_rxScript : s.samplePoll.rxScript = s.rxScript := rfl
@[simp] theorem samplePoll_clocked : s.samplePoll.clocked = s.clocked := rfl
@[simp] theorem samplePoll_resets : s.samplePoll.resets = s.resets := rfl
@[simp] theorem samplePoll_trace : s.samplePoll.trace = .poll (s.pollAt 0) :: s.trace := rfl
@[simp] theorem samplePoll_responses : s.samplePoll.responses = s.responses := rfl

/-! ### `transfer` -/

@[simp] theorem transfer_cfg (out : Byte) : (s.transfer out).cfg = s.cfg := rfl
@[simp] theorem transfer_rdi (out : Byte) : (s.transfer out).rdi = s.rdi := rfl
@[simp] theorem transfer_wri (out : Byte) : (s.transfer out).wri = s.wri := rfl
@[simp] theorem transfer_cnt (out : Byte) : (s.transfer out).cnt = s.cnt := rfl
@[simp] theorem transfer_store (out : Byte) : (s.transfer out).store = s.store := rfl
@[simp] theorem transfer_vol (out : Byte) : (s.transfer out).vol = s.vol := rfl
@[simp] theorem transfer_bal (out : Byte) : (s.transfer out).bal = s.bal := rfl
@[simp] theorem transfer_tone (out : Byte) : (s.transfer out).tone = s.tone := rfl
@[simp] theorem transfer_fill (out : Byte) : (s.transfer out).fill = s.fill := rfl
@[simp] theorem transfer_modeMir (out : Byte) : (s.transfer out).modeMir = s.modeMir := rfl
@[simp] theorem transfer_busMode (out : Byte) : (s.transfer out).busMode = s.busMode := rfl
@[simp] theorem transfer_busSpd (out : Byte) : (s.transfer out).busSpd = s.busSpd := rfl
@[simp] theorem transfer_rdyPull (out : Byte) : (s.transfer out).rdyPull = s.rdyPull := rfl
@[simp] theorem transfer_ready (out : Byte) : (s.transfer out).ready = s.ready := rfl
@[simp] theorem transfer_degraded (out : Byte) : (s.transfer out).degraded = s.degraded := rfl
@[simp] theorem transfer_hsFail (out : Byte) : (s.transfer out).hsFail = s.hsFail := rfl
@[simp] theorem transfer_pulse (out : Byte) : (s.transfer out).pulse = s.pulse := rfl
@[simp] theorem transfer_busy (out : Byte) : (s.transfer out).busy = s.busy := rfl
@[simp] theorem transfer_todo (out : Byte) : (s.transfer out).todo = s.todo := rfl
@[simp] theorem transfer_seq (out : Byte) : (s.transfer out).seq = s.seq := rfl
@[simp] theorem transfer_inbox (out : Byte) : (s.transfer out).inbox = s.inbox := rfl
@[simp] theorem transfer_resetScript (out : Byte) : (s.transfer out).resetScript = s.resetScript := rfl
@[simp] theorem transfer_pollScript (out : Byte) : (s.transfer out).pollScript = s.pollScript := rfl
@[simp] theorem transfer_polled (out : Byte) : (s.transfer out).polled = s.polled := rfl
@[simp] theorem transfer_rxScript (out : Byte) : (s.transfer out).rxScript = s.rxScript.tail := rfl
@[simp] theorem transfer_clocked (out : Byte) : (s.transfer out).clocked = s.clocked + 1 := rfl
@[simp] theorem transfer_resets (out : Byte) : (s.transfer out).resets = s.resets := rfl
@[simp] theorem transfer_trace (out : Byte) : (s.transfer out).trace = .xfer out (s.rxAt 0) :: s.trace := rfl
@[simp] theorem transfer_responses (out : Byte) : (s.transfer out).responses = s.responses := rfl

/-! ### `accept` -/

@[simp] theorem accept_cfg : s.accept.cfg = s.cfg := rfl
@[simp] theorem accept_rdi : s.accept.rdi = s.rdi := rfl
@[simp] theorem accept_wri : s.accept.wri = s.wri := rfl
@[simp] theorem accept_cnt : s.accept.cnt = s.cnt := rfl
@[simp] theorem accept_store : s.accept.store = s.store := rfl
@[simp] theorem accept_vol : s.accept.vol = s.vol := rfl
@[simp] theorem accept_bal : s.accept.bal = s.bal := rfl
@[simp] theorem accept_tone : s.accept.tone = s.tone := rfl
@[simp] theorem accept_fill : s.accept.fill = s.fill := rfl
@[simp] theorem accept_modeMir : s.accept.modeMir = s.modeMir := rfl
@[simp] theorem accept_busMode : s.accept.busMode = s.busMode := rfl
@[simp] theorem accept_busSpd : s.accept.busSpd = s.busSpd := rfl
@[simp] theorem accept_rdyPull : s.accept.rdyPull = s.rdyPull := rfl
@[simp] theorem accept_ready : s.accept.ready = s.ready := rfl
@[simp] theorem accept_degraded : s.accept.degraded = s.degraded := rfl
@[simp] theorem accept_hsFail : s.accept.hsFail = s.hsFail := rfl
@[simp] theorem accept_pulse : s.accept.pulse = s.pulse := rfl
@[simp] theorem accept_busy : s.accept.busy = true := rfl
@[simp] theorem accept_todo : s.accept.todo = [] := rfl
@[simp] theorem accept_seq : s.accept.seq = s.seq := rfl
@[simp] theorem accept_inbox : s.accept.inbox = s.inbox := rfl
@[simp] theorem accept_resetScript : s.accept.resetScript = s.resetScript := rfl
@[simp] theorem accept_pollScript : s.accept.pollScript = s.pollScript := rfl
@[simp] theorem accept_polled : s.accept.polled = s.polled := rfl
@[simp] theorem accept_rxScript : s.accept.rxScript = s.rxScript := rfl
@[simp] theorem accept_clocked : s.accept.clocked = s.clocked := rfl
@[simp] theorem accept_resets : s.accept.resets = s.resets := rfl
@[simp] theorem accept_trace : s.accept.trace = s.trace := rfl
@[simp] theorem accept_responses : s.accept.responses = s.responses := rfl

/-! ### `respond` -/

@[simp] theorem respond_cfg (st : Status) (v : Word) (p : List Byte) : (s.respond st v p).cfg = s.cfg := rfl
@[simp] theorem respond_rdi (st : Status) (v : Word) (p : List Byte) : (s.respond st v p).rdi = s.rdi := rfl
@[simp] theorem respond_wri (st : Status) (v : Word) (p : List Byte) : (s.respond st v p).wri = s.wri := rfl
@[simp] theorem respond_cnt (st : Status) (v : Word) (p : List Byte) : (s.respond st v p).cnt = s.cnt := rfl
@[simp] theorem respond_store (st : Status) (v : Word) (p : List Byte) : (s.respond st v p).store = s.store := rfl
@[simp] theorem respond_vol (st : Status) (v : Word) (p : List Byte) : (s.respond st v p).vol = s.vol := rfl
@[simp] theorem respond_bal (st : Status) (v : Word) (p : List Byte) : (s.respond st v p).bal = s.bal := rfl
@[simp] theorem respond_tone (st : Status) (v : Word) (p : List Byte) : (s.respond st v p).tone = s.tone := rfl
@[simp] theorem respond_fill (st : Status) (v : Word) (p : List Byte) : (s.respond st v p).fill = s.fill := rfl
@[simp] theorem respond_modeMir (st : Status) (v : Word) (p : List Byte) : (s.respond st v p).modeMir = s.modeMir := rfl
@[simp] theorem respond_busMode (st : Status) (v : Word) (p : List Byte) : (s.respond st v p).busMode = s.busMode := rfl
@[simp] theorem respond_busSpd (st : Status) (v : Word) (p : List Byte) : (s.respond st v p).busSpd = s.busSpd := rfl
@[simp] theorem respond_rdyPull (st : Status) (v : Word) (p : List Byte) : (s.respond st v p).rdyPull = s.rdyPull := rfl
@[simp] theorem respond_ready (st : Status) (v : Word) (p : List Byte) : (s.respond st v p).ready = s.ready := rfl
@[simp] theorem respond_degraded (st : Status) (v : Word) (p : List Byte) : (s.respond st v p).degraded = s.degraded := rfl
@[simp] theorem respond_hsFail (st : Status) (v : Word) (p : List Byte) : (s.respond st v p).hsFail = s.hsFail := rfl
@[simp] theorem respond_pulse (st : Status) (v : Word) (p : List Byte) : (s.respond st v p).pulse = s.pulse := rfl
@[simp] theorem respond_busy (st : Status) (v : Word) (p : List Byte) : (s.respond st v p).busy = false := rfl
@[simp] theorem respond_todo (st : Status) (v : Word) (p : List Byte) : (s.respond st v p).todo = [] := rfl
@[simp] theorem respond_seq (st : Status) (v : Word) (p : List Byte) : (s.respond st v p).seq = s.seq := rfl
@[simp] theorem respond_inbox (st : Status) (v : Word) (p : List Byte) : (s.respond st v p).inbox = s.inbox := rfl
@[simp] theorem respond_resetScript (st : Status) (v : Word) (p : List Byte) : (s.respond st v p).resetScript = s.resetScript := rfl
@[simp] theorem respond_pollScript (st : Status) (v : Word) (p : List Byte) : (s.respond st v p).pollScript = s.pollScript := rfl
@[simp] theorem respond_polled (st : Status) (v : Word) (p : List Byte) : (s.respond st v p).polled = s.polled := rfl
@[simp] theorem respond_rxScript (st : Status) (v : Word) (p : List Byte) : (s.respond st v p).rxScript = s.rxScript := rfl
@[simp] theorem respond_clocked (st : Status) (v : Word) (p : List Byte) : (s.respond st v p).clocked = s.clocked := rfl
@[simp] theorem respond_resets (st : Status) (v : Word) (p : List Byte) : (s.respond st v p).resets = s.resets := rfl
@[simp] theorem respond_trace (st : Status) (v : Word) (p : List Byte) : (s.respond st v p).trace = s.trace := rfl
@[simp] theorem respond_responses (st : Status) (v : Word) (p : List Byte) : (s.respond st v p).responses = ⟨st, v, p⟩ :: s.responses := rfl

/-! ### `endTransaction` -/

@[simp] theorem endTransaction_cfg : s.endTransaction.cfg = s.cfg := rfl
@[simp] theorem endTransaction_rdi : s.endTransaction.rdi = s.rdi := rfl
@[simp] theorem endTransaction_wri : s.endTransaction.wri = s.wri := rfl
@[simp] theorem endTransaction_cnt : s.endTransaction.cnt = s.cnt := rfl
@[simp] theorem endTransaction_store : s.endTransaction.store = s.store := rfl
@[simp] theorem endTransaction_vol : s.endTransaction.vol = s.vol := rfl
@[simp] theorem endTransaction_bal : s.endTransaction.bal = s.bal := rfl
@[simp] theorem endTransaction_tone : s.endTransaction.tone = s.tone := rfl
@[simp] theorem endTransaction_fill : s.endTransaction.fill = s.fill := rfl
@[simp] theorem endTransaction_modeMir : s.endTransaction.modeMir = s.modeMir := rfl
@[simp] theorem endTransaction_busMode : s.endTransaction.busMode = .idle := rfl
@[simp] theorem endTransaction_busSpd : s.endTransaction.busSpd = s.busSpd := rfl
@[simp] theorem endTransaction_rdyPull : s.endTransaction.rdyPull = s.rdyPull := rfl
@[simp] theorem endTransaction_ready : s.endTransaction.ready = s.ready := rfl
@[simp] theorem endTransaction_degraded : s.endTransaction.degraded = s.degraded := rfl
@[simp] theorem endTransaction_hsFail : s.endTransaction.hsFail = s.hsFail := rfl
@[simp] theorem endTransaction_pulse : s.endTransaction.pulse = s.pulse := rfl
@[simp] theorem endTransaction_busy : s.endTransaction.busy = s.busy := rfl
@[simp] theorem endTransaction_todo : s.endTransaction.todo = s.todo := rfl
@[simp] theorem endTransaction_seq : s.endTransaction.seq = s.seq := rfl
@[simp] theorem endTransaction_inbox : s.endTransaction.inbox = s.inbox := rfl
@[simp] theorem endTransaction_resetScript : s.endTransaction.resetScript = s.resetScript := rfl
@[simp] theorem endTransaction_pollScript : s.endTransaction.pollScript = s.pollScript := rfl
@[simp] theorem endTransaction_polled : s.endTransaction.polled = s.polled := rfl
@[simp] theorem endTransaction_rxScript : s.endTransaction.rxScript = s.rxScript := rfl
@[simp] theorem endTransaction_clocked : s.endTransaction.clocked = s.clocked := rfl
@[simp] theorem endTransaction_resets : s.endTransaction.resets = s.resets := rfl
@[simp] theorem endTransaction_trace : s.endTransaction.trace = .closed :: s.trace := rfl
@[simp] theorem endTransaction_responses : s.endTransaction.responses = s.responses := rfl

/-! ### `createPlayback` -/

@[simp] theorem createPlayback_cfg : s.createPlayback.cfg = s.cfg := rfl
@[simp] theorem createPlayback_rdi : s.createPlayback.rdi = s.rdi := rfl
@[simp] theorem createPlayback_wri : s.createPlayback.wri = s.wri := rfl
@[simp] theorem createPlayback_cnt : s.createPlayback.cnt = s.cnt := rfl
@[simp] theorem createPlayback_store : s.createPlayback.store = s.store := rfl
@[simp] theorem createPlayback_vol : s.createPlayback.vol = 0 := rfl
@[simp] theorem createPlayback_bal : s.createPlayback.bal = 0 := rfl
@[simp] theorem createPlayback_tone : s.createPlayback.tone = 0 := rfl
@[simp] theorem createPlayback_fill : s.createPlayback.fill = 0 := rfl
@[simp] theorem createPlayback_modeMir : s.createPlayback.modeMir = 0 := rfl
@[simp] theorem createPlayback_busMode : s.createPlayback.busMode = s.busMode := rfl
@[simp] theorem createPlayback_busSpd : s.createPlayback.busSpd = s.busSpd := rfl
@[simp] theorem createPlayback_rdyPull : s.createPlayback.rdyPull = s.rdyPull := rfl
@[simp] theorem createPlayback_ready : s.createPlayback.ready = false := rfl
@[simp] theorem createPlayback_degraded : s.createPlayback.degraded = false := rfl
@[simp] theorem createPlayback_hsFail : s.createPlayback.hsFail = false := rfl
@[simp] theorem createPlayback_pulse : s.createPlayback.pulse = s.pulse := rfl
@[simp] theorem createPlayback_busy : s.createPlayback.busy = s.busy := rfl
@[simp] theorem createPlayback_todo : s.createPlayback.todo = s.todo := rfl
@[simp] theorem createPlayback_seq : s.createPlayback.seq = s.seq := rfl
@[simp] theorem createPlayback_inbox : s.createPlayback.inbox = s.inbox := rfl
@[simp] theorem createPlayback_resetScript : s.createPlayback.resetScript = s.resetScript := rfl
@[simp] theorem createPlayback_pollScript : s.createPlayback.pollScript = s.pollScript := rfl
@[simp] theorem createPlayback_polled : s.createPlayback.polled = s.polled := rfl
@[simp] theorem createPlayback_rxScript : s.createPlayback.rxScript = s.rxScript := rfl
@[simp] theorem createPlayback_clocked : s.createPlayback.clocked = s.clocked := rfl
@[simp] theorem createPlayback_resets : s.createPlayback.resets = s.resets := rfl
@[simp] theorem createPlayback_trace : s.createPlayback.trace = s.trace := rfl
@[simp] theorem createPlayback_responses : s.createPlayback.responses = s.responses := rfl

/-! ### `hardwareReset` -/

@[simp] theorem hardwareReset_cfg : s.hardwareReset.cfg = s.cfg := rfl
@[simp] theorem hardwareReset_rdi : s.hardwareReset.rdi = State.reset.rdi := rfl
@[simp] theorem hardwareReset_wri : s.hardwareReset.wri = State.reset.wri := rfl
@[simp] theorem hardwareReset_cnt : s.hardwareReset.cnt = State.reset.cnt := rfl
@[simp] theorem hardwareReset_store : s.hardwareReset.store = State.reset.store := rfl
@[simp] theorem hardwareReset_vol : s.hardwareReset.vol = State.reset.vol := rfl
@[simp] theorem hardwareReset_bal : s.hardwareReset.bal = State.reset.bal := rfl
@[simp] theorem hardwareReset_tone : s.hardwareReset.tone = State.reset.tone := rfl
@[simp] theorem hardwareReset_fill : s.hardwareReset.fill = State.reset.fill := rfl
@[simp] theorem hardwareReset_modeMir : s.hardwareReset.modeMir = State.reset.modeMir := rfl
@[simp] theorem hardwareReset_busMode : s.hardwareReset.busMode = State.reset.busMode := rfl
@[simp] theorem hardwareReset_busSpd : s.hardwareReset.busSpd = State.reset.busSpd := rfl
@[simp] theorem hardwareReset_rdyPull : s.hardwareReset.rdyPull = State.reset.rdyPull := rfl
@[simp] theorem hardwareReset_ready : s.hardwareReset.ready = State.reset.ready := rfl
@[simp] theorem hardwareReset_degraded : s.hardwareReset.degraded = State.reset.degraded := rfl
@[simp] theorem hardwareReset_hsFail : s.hardwareReset.hsFail = State.reset.hsFail := rfl
@[simp] theorem hardwareReset_pulse : s.hardwareReset.pulse = State.reset.pulse := rfl
@[simp] theorem hardwareReset_busy : s.hardwareReset.busy = State.reset.busy := rfl
@[simp] theorem hardwareReset_todo : s.hardwareReset.todo = State.reset.todo := rfl
@[simp] theorem hardwareReset_seq : s.hardwareReset.seq = State.reset.seq := rfl
@[simp] theorem hardwareReset_inbox : s.hardwareReset.inbox = s.inbox := rfl
@[simp] theorem hardwareReset_resetScript : s.hardwareReset.resetScript = s.resetScript.tail := rfl
@[simp] theorem hardwareReset_pollScript : s.hardwareReset.pollScript = s.pollScript := rfl
@[simp] theorem hardwareReset_polled : s.hardwareReset.polled = s.polled := rfl
@[simp] theorem hardwareReset_rxScript : s.hardwareReset.rxScript = s.rxScript := rfl
@[simp] theorem hardwareReset_clocked : s.hardwareReset.clocked = s.clocked := rfl
@[simp] theorem hardwareReset_resets : s.hardwareReset.resets = s.resets + 1 := rfl
@[simp] theorem hardwareReset_trace : s.hardwareReset.trace = s.trace := rfl
@[simp] theorem hardwareReset_responses : s.hardwareReset.responses = s.responses := rfl

/-! ### `setPullup` and `tally` change one field besides the trace, and the sequencing state -/

@[simp] theorem setPullup_cfg (p : Bool) : (s.setPullup p).cfg = s.cfg := rfl
@[simp] theorem setPullup_rdi (p : Bool) : (s.setPullup p).rdi = s.rdi := rfl
@[simp] theorem setPullup_wri (p : Bool) : (s.setPullup p).wri = s.wri := rfl
@[simp] theorem setPullup_cnt (p : Bool) : (s.setPullup p).cnt = s.cnt := rfl
@[simp] theorem setPullup_store (p : Bool) : (s.setPullup p).store = s.store := rfl
@[simp] theorem setPullup_vol (p : Bool) : (s.setPullup p).vol = s.vol := rfl
@[simp] theorem setPullup_bal (p : Bool) : (s.setPullup p).bal = s.bal := rfl
@[simp] theorem setPullup_tone (p : Bool) : (s.setPullup p).tone = s.tone := rfl
@[simp] theorem setPullup_fill (p : Bool) : (s.setPullup p).fill = s.fill := rfl
@[simp] theorem setPullup_modeMir (p : Bool) : (s.setPullup p).modeMir = s.modeMir := rfl
@[simp] theorem setPullup_busMode (p : Bool) : (s.setPullup p).busMode = s.busMode := rfl
@[simp] theorem setPullup_busSpd (p : Bool) : (s.setPullup p).busSpd = s.busSpd := rfl
@[simp] theorem setPullup_rdyPull (p : Bool) : (s.setPullup p).rdyPull = p := rfl
@[simp] theorem setPullup_ready (p : Bool) : (s.setPullup p).ready = s.ready := rfl
@[simp] theorem setPullup_degraded (p : Bool) : (s.setPullup p).degraded = s.degraded := rfl
@[simp] theorem setPullup_hsFail (p : Bool) : (s.setPullup p).hsFail = s.hsFail := rfl
@[simp] theorem setPullup_pulse (p : Bool) : (s.setPullup p).pulse = s.pulse := rfl
@[simp] theorem setPullup_busy (p : Bool) : (s.setPullup p).busy = s.busy := rfl
@[simp] theorem setPullup_todo (p : Bool) : (s.setPullup p).todo = s.todo := rfl
@[simp] theorem setPullup_seq (p : Bool) : (s.setPullup p).seq = s.seq := rfl
@[simp] theorem setPullup_inbox (p : Bool) : (s.setPullup p).inbox = s.inbox := rfl
@[simp] theorem setPullup_resetScript (p : Bool) : (s.setPullup p).resetScript = s.resetScript := rfl
@[simp] theorem setPullup_pollScript (p : Bool) : (s.setPullup p).pollScript = s.pollScript := rfl
@[simp] theorem setPullup_polled (p : Bool) : (s.setPullup p).polled = s.polled := rfl
@[simp] theorem setPullup_rxScript (p : Bool) : (s.setPullup p).rxScript = s.rxScript := rfl
@[simp] theorem setPullup_clocked (p : Bool) : (s.setPullup p).clocked = s.clocked := rfl
@[simp] theorem setPullup_resets (p : Bool) : (s.setPullup p).resets = s.resets := rfl
@[simp] theorem setPullup_responses (p : Bool) : (s.setPullup p).responses = s.responses := rfl

@[simp] theorem tally_cfg (t : Half) (delta : Nat) : (s.tally t delta).cfg = s.cfg := rfl
@[simp] theorem tally_rdi (t : Half) (delta : Nat) : (s.tally t delta).rdi = s.rdi := rfl
@[simp] theorem tally_wri (t : Half) (delta : Nat) : (s.tally t delta).wri = s.wri := rfl
@[simp] theorem tally_cnt (t : Half) (delta : Nat) : (s.tally t delta).cnt = s.cnt := rfl
@[simp] theorem tally_store (t : Half) (delta : Nat) : (s.tally t delta).store = s.store := rfl
@[simp] theorem tally_vol (t : Half) (delta : Nat) : (s.tally t delta).vol = s.vol := rfl
@[simp] theorem tally_bal (t : Half) (delta : Nat) : (s.tally t delta).bal = s.bal := rfl
@[simp] theorem tally_tone (t : Half) (delta : Nat) : (s.tally t delta).tone = s.tone := rfl
@[simp] theorem tally_fill (t : Half) (delta : Nat) : (s.tally t delta).fill = s.fill := rfl
@[simp] theorem tally_modeMir (t : Half) (delta : Nat) : (s.tally t delta).modeMir = s.modeMir := rfl
@[simp] theorem tally_busMode (t : Half) (delta : Nat) : (s.tally t delta).busMode = s.busMode := rfl
@[simp] theorem tally_busSpd (t : Half) (delta : Nat) : (s.tally t delta).busSpd = s.busSpd := rfl
@[simp] theorem tally_rdyPull (t : Half) (delta : Nat) : (s.tally t delta).rdyPull = s.rdyPull := rfl
@[simp] theorem tally_ready (t : Half) (delta : Nat) : (s.tally t delta).ready = s.ready := rfl
@[simp] theorem tally_degraded (t : Half) (delta : Nat) : (s.tally t delta).degraded = s.degraded := rfl
@[simp] theorem tally_hsFail (t : Half) (delta : Nat) : (s.tally t delta).hsFail = s.hsFail := rfl
@[simp] theorem tally_pulse (t : Half) (delta : Nat) : (s.tally t delta).pulse = s.pulse := rfl
@[simp] theorem tally_busy (t : Half) (delta : Nat) : (s.tally t delta).busy = s.busy := rfl
@[simp] theorem tally_todo (t : Half) (delta : Nat) : (s.tally t delta).todo = s.todo := rfl
@[simp] theorem tally_inbox (t : Half) (delta : Nat) : (s.tally t delta).inbox = s.inbox := rfl
@[simp] theorem tally_resetScript (t : Half) (delta : Nat) : (s.tally t delta).resetScript = s.resetScript := rfl
@[simp] theorem tally_pollScript (t : Half) (delta : Nat) : (s.tally t delta).pollScript = s.pollScript := rfl
@[simp] theorem tally_polled (t : Half) (delta : Nat) : (s.tally t delta).polled = s.polled := rfl
@[simp] theorem tally_rxScript (t : Half) (delta : Nat) : (s.tally t delta).rxScript = s.rxScript := rfl
@[simp] theorem tally_clocked (t : Half) (delta : Nat) : (s.tally t delta).clocked = s.clocked := rfl
@[simp] theorem tally_resets (t : Half) (delta : Nat) : (s.tally t delta).resets = s.resets := rfl
@[simp] theorem tally_trace (t : Half) (delta : Nat) : (s.tally t delta).trace = s.trace := rfl
@[simp] theorem tally_responses (t : Half) (delta : Nat) : (s.tally t delta).responses = s.responses := rfl

/-! ### `raise` closes an open transaction and answers -/

@[simp] theorem raise_cfg (st : Status) (v : Word) : (s.raise st v).cfg = s.cfg := by
  unfold State.raise
  split <;> rfl
@[simp] theorem raise_rdi (st : Status) (v : Word) : (s.raise st v).rdi = s.rdi := by
  unfold State.raise
  split <;> rfl
@[simp] theorem raise_wri (st : Status) (v : Word) : (s.raise st v).wri = s.wri := by
  unfold State.raise
  split <;> rfl
@[simp] theorem raise_cnt (st : Status) (v : Word) : (s.raise st v).cnt = s.cnt := by
  unfold State.raise
  split <;> rfl
@[simp] theorem raise_store (st : Status) (v : Word) : (s.raise st v).store = s.store := by
  unfold State.raise
  split <;> rfl
@[simp] theorem raise_vol (st : Status) (v : Word) : (s.raise st v).vol = s.vol := by
  unfold State.raise
  split <;> rfl
@[simp] theorem raise_bal (st : Status) (v : Word) : (s.raise st v).bal = s.bal := by
  unfold State.raise
  split <;> rfl
@[simp] theorem raise_tone (st : Status) (v : Word) : (s.raise st v).tone = s.tone := by
  unfold State.raise
  split <;> rfl
@[simp] theorem raise_fill (st : Status) (v : Word) : (s.raise st v).fill = s.fill := by
  unfold State.raise
  split <;> rfl
@[simp] theorem raise_modeMir (st : Status) (v : Word) : (s.raise st v).modeMir = s.modeMir := by
  unfold State.raise
  split <;> rfl
@[simp] theorem raise_busMode (st : Status) (v : Word) : (s.raise st v).busMode = .idle := by
  unfold State.raise
  split
  · assumption
  · rfl
@[simp] theorem raise_busSpd (st : Status) (v : Word) : (s.raise st v).busSpd = s.busSpd := by
  unfold State.raise
  split <;> rfl
@[simp] theorem raise_rdyPull (st : Status) (v : Word) : (s.raise st v).rdyPull = s.rdyPull := by
  unfold State.raise
  split <;> rfl
@[simp] theorem raise_ready (st : Status) (v : Word) : (s.raise st v).ready = s.ready := by
  unfold State.raise
  split <;> rfl
@[simp] theorem raise_degraded (st : Status) (v : Word) : (s.raise st v).degraded = s.degraded := by
  unfold State.raise
  split <;> rfl
@[simp] theorem raise_hsFail (st : Status) (v : Word) : (s.raise st v).hsFail = s.hsFail := by
  unfold State.raise
  split <;> rfl
@[simp] theorem raise_pulse (st : Status) (v : Word) : (s.raise st v).pulse = s.pulse := by
  unfold State.raise
  split <;> rfl
@[simp] theorem raise_busy (st : Status) (v : Word) : (s.raise st v).busy = false := by
  unfold State.raise
  split <;> rfl
@[simp] theorem raise_todo (st : Status) (v : Word) : (s.raise st v).todo = [] := by
  unfold State.raise
  split <;> rfl
@[simp] theorem raise_seq (st : Status) (v : Word) : (s.raise st v).seq = s.seq := by
  unfold State.raise
  split <;> rfl
@[simp] theorem raise_inbox (st : Status) (v : Word) : (s.raise st v).inbox = s.inbox := by
  unfold State.raise
  split <;> rfl
@[simp] theorem raise_resetScript (st : Status) (v : Word) : (s.raise st v).resetScript = s.resetScript := by
  unfold State.raise
  split <;> rfl
@[simp] theorem raise_pollScript (st : Status) (v : Word) : (s.raise st v).pollScript = s.pollScript := by
  unfold State.raise
  split <;> rfl
@[simp] theorem raise_polled (st : Status) (v : Word) : (s.raise st v).polled = s.polled := by
  unfold State.raise
  split <;> rfl
@[simp] theorem raise_rxScript (st : Status) (v : Word) : (s.raise st v).rxScript = s.rxScript := by
  unfold State.raise
  split <;> rfl
@[simp] theorem raise_clocked (st : Status) (v : Word) : (s.raise st v).clocked = s.clocked := by
  unfold State.raise
  split <;> rfl
@[simp] theorem raise_resets (st : Status) (v : Word) : (s.raise st v).resets = s.resets := by
  unfold State.raise
  split <;> rfl
@[simp] theorem raise_responses (st : Status) (v : Word) : (s.raise st v).responses = ⟨st, v, []⟩ :: s.responses := by
  unfold State.raise
  split <;> rfl

/-! ### `tick` changes the host's clock to the next reset alone -/

@[simp] theorem tick_of_none (h : s.resetScript = []) : s.tick = s := by simp [State.tick, h]
@[simp] theorem tick_cfg : s.tick.cfg = s.cfg := by unfold State.tick; split <;> rfl
@[simp] theorem tick_rdi : s.tick.rdi = s.rdi := by unfold State.tick; split <;> rfl
@[simp] theorem tick_wri : s.tick.wri = s.wri := by unfold State.tick; split <;> rfl
@[simp] theorem tick_cnt : s.tick.cnt = s.cnt := by unfold State.tick; split <;> rfl
@[simp] theorem tick_store : s.tick.store = s.store := by unfold State.tick; split <;> rfl
@[simp] theorem tick_vol : s.tick.vol = s.vol := by unfold State.tick; split <;> rfl
@[simp] theorem tick_bal : s.tick.bal = s.bal := by unfold State.tick; split <;> rfl
@[simp] theorem tick_tone : s.tick.tone = s.tone := by unfold State.tick; split <;> rfl
@[simp] theorem tick_fill : s.tick.fill = s.fill := by unfold State.tick; split <;> rfl
@[simp] theorem tick_modeMir : s.tick.modeMir = s.modeMir := by unfold State.tick; split <;> rfl
@[simp] theorem tick_busMode : s.tick.busMode = s.busMode := by unfold State.tick; split <;> rfl
@[simp] theorem tick_busSpd : s.tick.busSpd = s.busSpd := by unfold State.tick; split <;> rfl
@[simp] theorem tick_rdyPull : s.tick.rdyPull = s.rdyPull := by unfold State.tick; split <;> rfl
@[simp] theorem tick_ready : s.tick.ready = s.ready := by unfold State.tick; split <;> rfl
@[simp] theorem tick_degraded : s.tick.degraded = s.degraded := by unfold State.tick; split <;> rfl
@[simp] theorem tick_hsFail : s.tick.hsFail = s.hsFail := by unfold State.tick; split <;> rfl
@[simp] theorem tick_pulse : s.tick.pulse = s.pulse := by unfold State.tick; split <;> rfl
@[simp] theorem tick_busy : s.tick.busy = s.busy := by unfold State.tick; split <;> rfl
@[simp] theorem tick_todo : s.tick.todo = s.todo := by unfold State.tick; split <;> rfl
@[simp] theorem tick_seq : s.tick.seq = s.seq := by unfold State.tick; split <;> rfl
@[simp] theorem tick_inbox : s.tick.inbox = s.inbox := by unfold State.tick; split <;> rfl
@[simp] theorem tick_pollScript : s.tick.pollScript = s.pollScript := by unfold State.tick; split <;> rfl
@[simp] theorem tick_polled : s.tick.polled = s.polled := by unfold State.tick; split <;> rfl
@[simp] theorem tick_rxScript : s.tick.rxScript = s.rxScript := by unfold State.tick; split <;> rfl
@[simp] theorem tick_clocked : s.tick.clocked = s.clocked := by unfold State.tick; split <;> rfl
@[simp] theorem tick_resets : s.tick.resets = s.resets := by unfold State.tick; split <;> rfl
@[simp] theorem tick_trace : s.tick.trace = s.trace := by unfold State.tick; split <;> rfl
@[simp] theorem tick_responses : s.tick.responses = s.responses := by unfold State.tick; split <;> rfl

/-- With no transaction open, `raise` is the response alone. -/
theorem raise_of_idle (st : Status) (v : Word) (h : s.busMode = .idle) : s.raise st v = s.respond st v [] := by
  simp [State.raise, h]

/-- With a transaction open, `raise` closes it first (R287). -/
theorem raise_of_active (st : Status) (v : Word) (h : s.busMode ≠ .idle) :
    s.raise st v = s.endTransaction.respond st v [] := by
  simp [State.raise, h]

end Sys2Proof.Machine
end

