-- ==== Sys2Proof/Laws/Ops.lean ====
section
/-!
SUPPORT. One lemma per shared operation that says what it can do: the device's answers, the sequencer (`runAs`, `runPrims`),
the ready wait, and the two register frames against a ready device.
-/

namespace Sys2Proof.Machine

variable (s : State)

/-! ### The device's answers -/

theorem getD_tail_getElem? {α : Type} (l : List α) (k : Nat) (d : α) :
    (l.tail[k]?).getD d = (l[k + 1]?).getD d := by
  cases l <;> simp

@[simp] theorem samplePoll_pollAt (k : Nat) : s.samplePoll.pollAt k = s.pollAt (k + 1) := by
  simp only [State.pollAt, samplePoll_pollScript, samplePoll_polled]
  rw [getD_tail_getElem?, show s.polled + 1 + k = s.polled + (k + 1) by omega]

@[simp] theorem samplePoll_rxAt (k : Nat) : s.samplePoll.rxAt k = s.rxAt k := rfl

@[simp] theorem transfer_rxAt (out : Byte) (k : Nat) : (s.transfer out).rxAt k = s.rxAt (k + 1) := by
  simp only [State.rxAt, transfer_rxScript, transfer_clocked]
  rw [getD_tail_getElem?, show s.clocked + 1 + k = s.clocked + (k + 1) by omega]

@[simp] theorem transfer_pollAt (out : Byte) (k : Nat) : (s.transfer out).pollAt k = s.pollAt k := rfl

@[simp] theorem accept_pollAt (k : Nat) : s.accept.pollAt k = s.pollAt k := rfl

@[simp] theorem accept_rxAt (k : Nat) : s.accept.rxAt k = s.rxAt k := rfl

/-- A script of answers that are all 1 is a ready device. -/
theorem deviceReady_of_script (n : Nat) (h : s.pollScript = List.replicate n true) (hr : s.resetScript = []) :
    DeviceReady s n := by
  refine ⟨hr, fun k hk => ?_⟩
  simp [State.pollAt, h, hk]

/-- A device that is ready for `n` polls is ready for fewer. -/
theorem DeviceReady.mono {s : State} {m n : Nat} (h : DeviceReady s n) (hm : m ≤ n) : DeviceReady s m :=
  ⟨h.1, fun k hk => h.2 k (by omega)⟩

/-! ### The sequencer -/

/-- A command that has ended runs no further line. -/
theorem runAs_ended (t : Task) (f : State → State) (h : s.busy = false) : s.runAs t f = s := by
  simp [State.runAs, h]

/-- A command that waits puts the line off. -/
theorem runAs_waiting (t u : Task) (us : List Task) (f : State → State) (h : s.busy = true) (ht : s.todo = u :: us) :
    s.runAs t f = { s with todo := (u :: us) ++ [t] } := by
  simp [State.runAs, h, ht]

/-- A command in progress that does not wait runs the line. -/
theorem runAs_now (t : Task) (f : State → State) (h : s.busy = true) (ht : s.todo = []) (hr : s.resetScript = []) :
    s.runAs t f = f s := by
  simp [State.runAs, h, ht, hr]

/-- A hardware reset that is due comes before the line. -/
theorem runAs_reset (t : Task) (f : State → State) (rest : List Nat) (h : s.busy = true) (ht : s.todo = [])
    (hr : s.resetScript = 0 :: rest) : s.runAs t f = s.hardwareReset := by
  simp [State.runAs, h, ht, hr]

/-- Everything `runAs` can do. -/
theorem runAs_cases (t : Task) (f : State → State) :
    (s.busy = false ∧ s.runAs t f = s) ∨
    (s.busy = true ∧ s.todo ≠ [] ∧ s.runAs t f = { s with todo := s.todo ++ [t] }) ∨
    (s.busy = true ∧ s.todo = [] ∧ s.resetScript = [] ∧ s.runAs t f = f s) ∨
    (s.busy = true ∧ s.todo = [] ∧ (∃ rest, s.resetScript = 0 :: rest) ∧ s.runAs t f = s.hardwareReset) ∨
    (s.busy = true ∧ s.todo = [] ∧ ∃ n rest, s.resetScript = (n + 1) :: rest ∧
      s.runAs t f = f { s with resetScript := n :: rest }) := by
  cases hb : s.busy with
  | false => exact .inl ⟨rfl, runAs_ended s t f hb⟩
  | true =>
    cases ht : s.todo with
    | cons u us => exact .inr (.inl ⟨rfl, by simp, by simp [runAs_waiting s t u us f hb ht, hb]⟩)
    | nil =>
      cases hr : s.resetScript with
      | nil => exact .inr (.inr (.inl ⟨rfl, rfl, rfl, runAs_now s t f hb ht hr⟩))
      | cons n rest =>
        cases n with
        | zero => exact .inr (.inr (.inr (.inl ⟨rfl, rfl, ⟨rest, rfl⟩, runAs_reset s t f rest hb ht hr⟩)))
        | succ n =>
          exact .inr (.inr (.inr (.inr ⟨rfl, rfl, n, rest, rfl, by simp [State.runAs, hb, ht, hr]⟩)))

@[simp] theorem runPrims_nil : s.runPrims [] = s := rfl

@[simp] theorem runPrims_cons (p : Prim) (ps : List Prim) : s.runPrims (p :: ps) = (s.runPrim p).runPrims ps := rfl

theorem runPrims_append (ps qs : List Prim) : s.runPrims (ps ++ qs) = (s.runPrims ps).runPrims qs := by
  simp [State.runPrims, List.foldl_append]

theorem runPrims_ended (ps : List Prim) (h : s.busy = false) : s.runPrims ps = s := by
  induction ps with
  | nil => rfl
  | cons p ps ih => rw [runPrims_cons, State.runPrim, runAs_ended s _ _ h, ih]

/-- A line of a command in progress that does not wait, with no hardware reset coming, has its effect. -/
theorem runPrim_now (p : Prim) (h : s.busy = true) (ht : s.todo = []) (hr : s.resetScript = []) :
    s.runPrim p = p.run s := runAs_now s _ _ h ht hr

/-! ### The ready wait -/

/-- A sample that reads 1 ends the wait. -/
theorem pollOnce_ready (h : s.pollAt 0 = true) : s.pollOnce = s.samplePoll := by simp [State.pollOnce, h]

/-- A sample that reads 0, with no bound or below it, yields and goes on waiting, if no hardware reset comes between. -/
theorem pollOnce_waits (hy : s.busy = true) (ht : s.todo = []) (hr : s.resetScript = []) (h : s.pollAt 0 = false)
    (hb : ∀ k, s.cfg.waitBound = some k → s.seq.polls + 1 < k) :
    s.pollOnce = { s.samplePoll.emit .yield with
      seq := { s.seq with polls := s.seq.polls + 1 }, todo := [.prim .pollAgain] } := by
  unfold State.pollOnce
  rw [if_neg (by simp [h]), runAs_now s.samplePoll _ _ hy ht hr]
  unfold State.yieldOnce
  cases hw : s.cfg.waitBound with
  | none => simp [hw]
  | some k => simp [hw, show ¬ k ≤ s.seq.polls + 1 by have := hb k hw; omega]

/-- A sample that reads 0 and reaches the bound gives up (R165), if no hardware reset comes between: the transaction is closed and
the command raises, as `State.raise` does in one. -/
theorem pollOnce_gives_up (k : Nat) (hy : s.busy = true) (ht : s.todo = []) (hr : s.resetScript = [])
    (h : s.pollAt 0 = false) (hw : s.cfg.waitBound = some k) (hk : k ≤ s.seq.polls + 1) :
    s.pollOnce = State.raise { s.samplePoll.emit .yield with seq := { s.seq with polls := s.seq.polls + 1 } }
      .busTimeout 0 := by
  unfold State.pollOnce
  rw [if_neg (by simp [h]), runAs_now s.samplePoll _ _ hy ht hr]
  by_cases hm : s.busMode = .idle <;>
    simp [State.yieldOnce, State.giveUp, State.runAs, State.raise, hw, hk, hy, ht, hr, hm]

/-- One micro-operation of an idle core: nothing without a reset coming, else one nearer to it. -/
theorem tick_cases :
    (s.resetScript = [] ∧ s.tick = s) ∨
      ∃ n rest, s.resetScript = n :: rest ∧ s.tick = { s with resetScript := (n - 1) :: rest } := by
  unfold State.tick
  cases hr : s.resetScript with
  | nil => exact .inl ⟨rfl, rfl⟩
  | cons n rest => exact .inr ⟨n, rest, rfl, rfl⟩

/-! ### A line by its effect, and a loop by its name -/

/-- Going on with a command runs the same functions as beginning it. -/
theorem runTask_eq :
    (∀ p, runTask (.prim p) = p.run) ∧ (∀ n src, runTask (.bursts n src) = burstLoop src n) ∧
    (∀ n delta, runTask (.sweep n delta) = sweepLoop delta n) ∧ runTask .lowTest = lowTest ∧
    runTask .bringUpChain = bringUpChain ∧ (∀ n, runTask (.stopLoop n) = stopLoop n) ∧
    (∀ n, runTask (.cancelTest n) = cancelTest (stopLoop n)) ∧ (∀ a vs, runTask (.writes a vs) = writeLoop a vs) ∧
    (∀ n ws, runTask (.records n ws) = recordLoop n ws) :=
  ⟨fun _ => rfl, fun _ _ => rfl, fun _ _ => rfl, rfl, rfl, fun _ => rfl, fun _ => rfl, fun _ _ => rfl, fun _ _ => rfl⟩

/-! ### Register frames against a ready device -/

@[simp] theorem hiByte_append (a b : Byte) : hiByte (a ++ b) = a := by
  unfold hiByte
  exact BitVec.extractLsb'_append_eq_left

@[simp] theorem loByte_append (a b : Byte) : loByte (a ++ b) = b := by
  unfold loByte
  exact BitVec.extractLsb'_append_eq_right

/-- A 16-bit value is its two bytes, the high one first (R67). -/
@[simp] theorem hiByte_append_loByte (v : Half) : (hiByte v ++ loByte v : Half) = v := by
  apply BitVec.eq_of_getLsbD_eq
  intro k hk
  rw [BitVec.getLsbD_append, hiByte, loByte, BitVec.getLsbD_extractLsb', BitVec.getLsbD_extractLsb']
  by_cases h : k < 8
  · simp [h]
  · simp [h, show k - 8 < 8 by omega, show 8 + (k - 8) = k by omega]

theorem tail_tail {α : Type} (l : List α) : l.tail.tail = l.drop 2 := by simp [← List.drop_one]

/-- What a transaction of four transfers and two polls leaves of the ports. -/
def State.afterFrame (s : State) (evs : List Event) : State :=
  { s with
    busMode := .idle, pollScript := s.pollScript.drop 2, polled := s.polled + 2, rxScript := s.rxScript.drop 4
    clocked := s.clocked + 4, trace := evs.reverse ++ s.trace }

/-- `RegWrite` in progress, against a device that is ready twice: the frame's events, and nothing else but the wait's poll
count. -/
theorem regWrite_ready (addr : Byte) (v : Half) (h : s.busy = true) (ht : s.todo = []) (hd : DeviceReady s 2) :
    s.runPrims (regWriteLines addr v) =
      { s.afterFrame (writeEvents s 0 addr v) with seq := { s.seq with polls := 0 } } := by
  obtain ⟨hr, hp⟩ := hd
  have h0 := hp 0 (by omega)
  have h1 := hp 1 (by omega)
  obtain ⟨_, _, _, _, _, _, _, _, _, _, _, _, _, _, _, _, _, b, t, q, _, r, ps, _, rx, _, _, _, _⟩ := s
  simp only at h ht hr
  subst h ht hr
  simp [State.pollAt] at h0 h1
  simp [regWriteLines, writeFrame, State.runPrim, State.runAs, Prim.run, State.pollOnce, State.pollAt, State.samplePoll,
    State.transfer, State.endTransaction, State.afterFrame, writeEvents, State.rxAt, h0, h1, tail_tail,
    Config.opWrite, Nat.add_assoc]

/-- `RegRead` in progress, against a device that is ready twice: the frame's events, and the 16 bits received. -/
theorem regRead_ready (addr : Byte) (h : s.busy = true) (ht : s.todo = []) (hd : DeviceReady s 2) :
    s.runPrims (regReadLines addr) =
      { s.afterFrame (readEvents s 0 addr) with seq := { s.seq with polls := 0, readValue := readAt s 0 } } := by
  obtain ⟨hr, hp⟩ := hd
  have h0 := hp 0 (by omega)
  have h1 := hp 1 (by omega)
  obtain ⟨_, _, _, _, _, _, _, _, _, _, _, _, _, _, _, _, _, b, t, q, _, r, ps, _, rx, _, _, _, _⟩ := s
  simp only at h ht hr
  subst h ht hr
  simp [State.pollAt] at h0 h1
  simp [regReadLines, readHeader, State.runPrim, State.runAs, Prim.run, State.pollOnce, State.pollAt, State.samplePoll,
    State.transfer, State.endTransaction, State.afterFrame, readEvents, readAt, State.rxAt, h0, h1, tail_tail,
    Config.opRead, Nat.add_assoc]

end Sys2Proof.Machine
end

