-- ==== Sys2Proof/Laws/PerInstr.lean ====
section
/-!
SUPPORT. The family TableRow, one lemma per command: its command word and payload fit its row of spec/opcode_table.json (R96,
R93).
-/

namespace Sys2Proof.Laws

/-- The command's opcode and mnemonic are those of a row of R96's table, its command word selects that row
(`w & mask = match`), and its payload has the length R93 gives. -/
def TableRow.Statement (i : Instr) : Prop :=
  i.wellFormed = true →
    ∃ r ∈ opcodeTable, r.op = i.opcode ∧ r.mnemonic = i.mnemonic ∧ i.commandWord &&& r.mask = r.pattern ∧
      i.payload.length = payloadLength i.opcode (i.arg.setWidth 16)

/-- A command word and a mask, bit by bit. -/
theorem commandWord_and_eq (op : Byte) (arg : Word) (mask pattern : CommandWord)
    (h : ∀ k, k < 40 → ((if k < 32 then arg.getLsbD k else op.getLsbD (k - 32)) && mask.getLsbD k) = pattern.getLsbD k) :
    ((op ++ arg : CommandWord) &&& mask) = pattern := by
  apply BitVec.eq_of_getLsbD_eq
  intro k hk
  rw [← h k (by omega), BitVec.getLsbD_and, BitVec.getLsbD_append]

theorem halvesBytes_length (ws : List Half) : (halvesBytes ws).length = 2 * ws.length := by
  induction ws with
  | nil => rfl
  | cons w ws ih => simp [halvesBytes, ih]; omega

theorem TableRow.getReg (k : Byte) : TableRow.Statement (.getReg k) := by
  intro _
  refine ⟨⟨"GET_REG", 0x01, 0x0100000000, 0xFFFFFFFF00⟩, by decide, rfl, rfl, ?_, rfl⟩
  apply commandWord_and_eq
  intro k hk
  interval_cases k <;> simp only [Instr.arg, Instr.opcode, wordOf, BitVec.getLsbD_append] <;> simp

theorem TableRow.rbReset : TableRow.Statement (.rbReset) := by
  exact fun _ => ⟨⟨"RB_RESET", 0x10, 0x1000000000, 0xFFFFFFFFFF⟩, by decide, rfl, rfl, by decide, rfl⟩

theorem TableRow.rbSpace : TableRow.Statement (.rbSpace) := by
  exact fun _ => ⟨⟨"RB_SPACE", 0x11, 0x1100000000, 0xFFFFFFFFFF⟩, by decide, rfl, rfl, by decide, rfl⟩

theorem TableRow.rbAvail : TableRow.Statement (.rbAvail) := by
  exact fun _ => ⟨⟨"RB_AVAIL", 0x12, 0x1200000000, 0xFFFFFFFFFF⟩, by decide, rfl, rfl, by decide, rfl⟩

theorem TableRow.rbFree : TableRow.Statement (.rbFree) := by
  exact fun _ => ⟨⟨"RB_FREE", 0x13, 0x1300000000, 0xFFFFFFFFFF⟩, by decide, rfl, rfl, by decide, rfl⟩

theorem TableRow.rbWrite (chunk : List Byte) : TableRow.Statement (.rbWrite chunk) := by
  intro h
  refine ⟨⟨"RB_WRITE", 0x14, 0x1400000000, 0xFFFFFFFFFF⟩, by decide, rfl, rfl, ?_, ?_⟩
  · apply commandWord_and_eq
    intro k hk
    interval_cases k <;> simp only [Instr.arg, Instr.opcode] <;> simp
  · simpa [Instr.wellFormed, Instr.payload, Instr.opcode, payloadLength, Config.chunkSize] using h

theorem TableRow.rbRead : TableRow.Statement (.rbRead) := by
  exact fun _ => ⟨⟨"RB_READ", 0x15, 0x1500000000, 0xFFFFFFFFFF⟩, by decide, rfl, rfl, by decide, rfl⟩

theorem TableRow.regRead (addr : Byte) : TableRow.Statement (.regRead addr) := by
  intro _
  refine ⟨⟨"REG_READ", 0x20, 0x2000000000, 0xFFFF00FFFF⟩, by decide, rfl, rfl, ?_, rfl⟩
  apply commandWord_and_eq
  intro k hk
  interval_cases k <;> simp only [Instr.arg, Instr.opcode, wordOf, BitVec.getLsbD_append] <;> simp

theorem TableRow.regWrite (addr : Byte) (value : Half) : TableRow.Statement (.regWrite addr value) := by
  intro _
  refine ⟨⟨"REG_WRITE", 0x21, 0x2100000000, 0xFFFF000000⟩, by decide, rfl, rfl, ?_, rfl⟩
  apply commandWord_and_eq
  intro k hk
  interval_cases k <;> simp only [Instr.arg, Instr.opcode, wordOf, BitVec.getLsbD_append] <;> simp

theorem TableRow.wramRead (ext : Half) : TableRow.Statement (.wramRead ext) := by
  intro _
  refine ⟨⟨"WRAM_READ", 0x22, 0x2200000000, 0xFF0000FFFF⟩, by decide, rfl, rfl, ?_, rfl⟩
  apply commandWord_and_eq
  intro k hk
  interval_cases k <;> simp only [Instr.arg, Instr.opcode, wordOf, BitVec.getLsbD_append] <;> simp

theorem TableRow.wramWrite (ext value : Half) : TableRow.Statement (.wramWrite ext value) := by
  intro _
  refine ⟨⟨"WRAM_WRITE", 0x23, 0x2300000000, 0xFF00000000⟩, by decide, rfl, rfl, ?_, rfl⟩
  apply commandWord_and_eq
  intro k hk
  interval_cases k <;> simp only [Instr.arg, Instr.opcode, wordOf, BitVec.getLsbD_append] <;> simp

theorem TableRow.selfTest (fast : Bool) : TableRow.Statement (.selfTest fast) := by
  intro _
  refine ⟨⟨"SELFTEST", 0x24, 0x2400000000, 0xFFFFFFFFFE⟩, by decide, rfl, rfl, ?_, rfl⟩
  cases fast <;> decide

theorem TableRow.playChunk (data : List Byte) : TableRow.Statement (.playChunk data) := by
  intro h
  replace h : data.length < 65536 := by simpa [Instr.wellFormed] using h
  refine ⟨⟨"PLAY_CHUNK", 0x30, 0x3000000000, 0xFFFFFF0000⟩, by decide, rfl, rfl, ?_, ?_⟩
  · apply commandWord_and_eq
    intro k hk
    have hz : ∀ j, 16 ≤ j → data.length.testBit j = false := fun j hj =>
      Nat.testBit_lt_two_pow (lt_of_lt_of_le h (Nat.pow_le_pow_right (n := 2) (by omega) hj))
    interval_cases k <;> simp only [Instr.arg, Instr.opcode, BitVec.getLsbD_ofNat] <;> simp [hz]
  · simp [Instr.payload, Instr.arg, Instr.opcode, payloadLength, Nat.mod_eq_of_lt h]

theorem TableRow.sendFill (n : Half) : TableRow.Statement (.sendFill n) := by
  intro _
  refine ⟨⟨"SEND_FILL", 0x31, 0x3100000000, 0xFFFFFF0000⟩, by decide, rfl, rfl, ?_, rfl⟩
  apply commandWord_and_eq
  intro k hk
  interval_cases k <;> simp only [Instr.arg, Instr.opcode, wordOf, BitVec.getLsbD_append] <;> simp

theorem TableRow.startSong : TableRow.Statement (.startSong) := by
  exact fun _ => ⟨⟨"START_SONG", 0x32, 0x3200000000, 0xFFFFFFFFFF⟩, by decide, rfl, rfl, by decide, rfl⟩

theorem TableRow.stopSong : TableRow.Statement (.stopSong) := by
  exact fun _ => ⟨⟨"STOP_SONG", 0x33, 0x3300000000, 0xFFFFFFFFFF⟩, by decide, rfl, rfl, by decide, rfl⟩

theorem TableRow.loadPatch (words : List Half) : TableRow.Statement (.loadPatch words) := by
  intro h
  replace h : words.length < 65536 := by simpa [Instr.wellFormed] using h
  refine ⟨⟨"LOAD_PATCH", 0x40, 0x4000000000, 0xFFFFFF0000⟩, by decide, rfl, rfl, ?_, ?_⟩
  · apply commandWord_and_eq
    intro k hk
    have hz : ∀ j, 16 ≤ j → words.length.testBit j = false := fun j hj =>
      Nat.testBit_lt_two_pow (lt_of_lt_of_le h (Nat.pow_le_pow_right (n := 2) (by omega) hj))
    interval_cases k <;> simp only [Instr.arg, Instr.opcode, BitVec.getLsbD_ofNat] <;> simp [hz]
  · simp [Instr.payload, Instr.arg, Instr.opcode, payloadLength, halvesBytes_length, Nat.mod_eq_of_lt h]

theorem TableRow.begin : TableRow.Statement (.begin) := by
  exact fun _ => ⟨⟨"BEGIN", 0x50, 0x5000000000, 0xFFFFFFFFFF⟩, by decide, rfl, rfl, by decide, rfl⟩

theorem TableRow.setVolume (v : Byte) : TableRow.Statement (.setVolume v) := by
  intro _
  refine ⟨⟨"SET_VOLUME", 0x51, 0x5100000000, 0xFFFFFFFF00⟩, by decide, rfl, rfl, ?_, rfl⟩
  apply commandWord_and_eq
  intro k hk
  interval_cases k <;> simp only [Instr.arg, Instr.opcode, wordOf, BitVec.getLsbD_append] <;> simp

theorem TableRow.setBalance (b : Byte) : TableRow.Statement (.setBalance b) := by
  intro _
  refine ⟨⟨"SET_BALANCE", 0x52, 0x5200000000, 0xFFFFFFFF00⟩, by decide, rfl, rfl, ?_, rfl⟩
  apply commandWord_and_eq
  intro k hk
  interval_cases k <;> simp only [Instr.arg, Instr.opcode, wordOf, BitVec.getLsbD_append] <;> simp

theorem TableRow.setTone (n0 n1 n2 n3 : Nibble) : TableRow.Statement (.setTone n0 n1 n2 n3) := by
  intro _
  refine ⟨⟨"SET_TONE", 0x53, 0x5300000000, 0xFFFFFF0000⟩, by decide, rfl, rfl, ?_, rfl⟩
  apply commandWord_and_eq
  intro k hk
  interval_cases k <;> simp only [Instr.arg, Instr.opcode, wordOf, BitVec.getLsbD_append] <;> simp

theorem TableRow.isConnected : TableRow.Statement (.isConnected) := by
  exact fun _ => ⟨⟨"IS_CONNECTED", 0x54, 0x5400000000, 0xFFFFFFFFFF⟩, by decide, rfl, rfl, by decide, rfl⟩

theorem TableRow.getTime : TableRow.Statement (.getTime) := by
  exact fun _ => ⟨⟨"GET_TIME", 0x55, 0x5500000000, 0xFFFFFFFFFF⟩, by decide, rfl, rfl, by decide, rfl⟩

theorem TableRow.clrTime : TableRow.Statement (.clrTime) := by
  exact fun _ => ⟨⟨"CLR_TIME", 0x56, 0x5600000000, 0xFFFFFFFFFF⟩, by decide, rfl, rfl, by decide, rfl⟩

theorem TableRow.adjRate (ppm : Word) : TableRow.Statement (.adjRate ppm) := by
  intro _
  refine ⟨⟨"ADJ_RATE", 0x57, 0x5700000000, 0xFF00000000⟩, by decide, rfl, rfl, ?_, rfl⟩
  apply commandWord_and_eq
  intro k hk
  interval_cases k <;> simp only [Instr.arg, Instr.opcode] <;> simp

end Sys2Proof.Laws
end

