-- ==== Sys2Proof/Tests/Slice0.lean ====
section
/-!
SUPPORT. The row's own tests: the checks of WellFormed, a written-out message for every command, the illegal messages, one or
two small runs of each command, and for every statement with hypotheses a state that meets them.

Expected results are those of 95_test_vectors.md, by the vector's number, or are worked by hand from the rule named.
-/

namespace Sys2Proof.Tests

open Sys2Proof Sys2Proof.Machine

/-! ## WellFormed: an ill-formed term for each check -/

theorem test_rbWrite_of_31_bytes_refused : (Instr.rbWrite (List.replicate 31 0)).wellFormed = false := by decide
theorem test_rbWrite_of_33_bytes_refused : (Instr.rbWrite (List.replicate 33 0)).wellFormed = false := by decide
theorem test_rbWrite_of_32_bytes_accepted : (Instr.rbWrite (List.replicate 32 0)).wellFormed = true := by decide
theorem playChunk_replicate_wellFormed (n : Nat) :
    (Instr.playChunk (List.replicate n 0)).wellFormed = decide (n < 65536) := by simp [Instr.wellFormed]
theorem loadPatch_replicate_wellFormed (n : Nat) :
    (Instr.loadPatch (List.replicate n 0)).wellFormed = decide (n < 65536) := by simp [Instr.wellFormed]
theorem test_playChunk_of_65536_bytes_refused : (Instr.playChunk (List.replicate 65536 0)).wellFormed = false :=
  (playChunk_replicate_wellFormed 65536).trans (by decide)
theorem test_playChunk_of_65535_bytes_accepted : (Instr.playChunk (List.replicate 65535 0)).wellFormed = true :=
  (playChunk_replicate_wellFormed 65535).trans (by decide)
theorem test_loadPatch_of_65536_words_refused : (Instr.loadPatch (List.replicate 65536 0)).wellFormed = false :=
  (loadPatch_replicate_wellFormed 65536).trans (by decide)
theorem test_loadPatch_of_65535_words_accepted : (Instr.loadPatch (List.replicate 65535 0)).wellFormed = true :=
  (loadPatch_replicate_wellFormed 65535).trans (by decide)
theorem test_cfg_default_wf : Cfg.default.wf = true := by decide

/-! ## Decode: the messages of the vectors, one or more for every command -/

theorem test_decode_getReg : decode [0x01, 0x00, 0x00, 0x00, 0x08] = .ok (.getReg 8) := rfl
theorem test_decode_rbReset : decode [0x10, 0x00, 0x00, 0x00, 0x00] = .ok .rbReset := rfl
theorem test_decode_rbSpace : decode [0x11, 0x00, 0x00, 0x00, 0x00] = .ok .rbSpace := rfl
theorem test_decode_rbAvail : decode [0x12, 0x00, 0x00, 0x00, 0x00] = .ok .rbAvail := rfl
theorem test_decode_rbFree : decode [0x13, 0x00, 0x00, 0x00, 0x00] = .ok .rbFree := rfl
theorem test_decode_rbWrite :
    decode ([0x14, 0x00, 0x00, 0x00, 0x00] ++ List.replicate 32 0xAA) = .ok (.rbWrite (List.replicate 32 0xAA)) := rfl
theorem test_decode_rbRead : decode [0x15, 0x00, 0x00, 0x00, 0x00] = .ok .rbRead := rfl
theorem test_decode_regRead : decode [0x20, 0x00, 0x0B, 0x00, 0x00] = .ok (.regRead 0x0B) := rfl
theorem test_decode_regWrite : decode [0x21, 0x00, 0x0B, 0x12, 0x34] = .ok (.regWrite 0x0B 0x1234) := rfl
theorem test_decode_wramRead : decode [0x22, 0x1E, 0x06, 0x00, 0x00] = .ok (.wramRead 0x1E06) := rfl
theorem test_decode_wramWrite : decode [0x23, 0x1E, 0x07, 0x00, 0xFF] = .ok (.wramWrite 0x1E07 0x00FF) := rfl
theorem test_decode_selfTest_slow : decode [0x24, 0x00, 0x00, 0x00, 0x00] = .ok (.selfTest false) := rfl
theorem test_decode_selfTest_fast : decode [0x24, 0x00, 0x00, 0x00, 0x01] = .ok (.selfTest true) := rfl
theorem test_decode_playChunk :
    decode [0x30, 0x00, 0x00, 0x00, 0x03, 0x0A, 0x0B, 0x0C] = .ok (.playChunk [0x0A, 0x0B, 0x0C]) := rfl
theorem test_decode_sendFill : decode [0x31, 0x00, 0x00, 0x08, 0x04] = .ok (.sendFill 2052) := rfl
theorem test_decode_startSong : decode [0x32, 0x00, 0x00, 0x00, 0x00] = .ok .startSong := rfl
theorem test_decode_stopSong : decode [0x33, 0x00, 0x00, 0x00, 0x00] = .ok .stopSong := rfl
theorem test_decode_loadPatch :
    decode [0x40, 0x00, 0x00, 0x00, 0x03, 0x00, 0x10, 0x80, 0x05, 0x12, 0x34] =
      .ok (.loadPatch [0x0010, 0x8005, 0x1234]) := rfl
theorem test_decode_begin : decode [0x50, 0x00, 0x00, 0x00, 0x00] = .ok .begin := rfl
theorem test_decode_setVolume : decode [0x51, 0x00, 0x00, 0x00, 0x64] = .ok (.setVolume 100) := rfl
theorem test_decode_setBalance : decode [0x52, 0x00, 0x00, 0x00, 0x9C] = .ok (.setBalance (BitVec.ofInt 8 (-100))) := rfl
theorem test_decode_setTone : decode [0x53, 0x00, 0x00, 0x35, 0xAF] = .ok (.setTone 3 5 10 15) := rfl
theorem test_decode_isConnected : decode [0x54, 0x00, 0x00, 0x00, 0x00] = .ok .isConnected := rfl
theorem test_decode_getTime : decode [0x55, 0x00, 0x00, 0x00, 0x00] = .ok .getTime := rfl
theorem test_decode_clrTime : decode [0x56, 0x00, 0x00, 0x00, 0x00] = .ok .clrTime := rfl
theorem test_decode_adjRate :
    decode [0x57, 0xFF, 0xFE, 0x79, 0x60] = .ok (.adjRate (BitVec.ofInt 32 (-100000))) := rfl

/-! The illegal messages V150 to V165. -/

theorem test_V150 : decode [0x00, 0x00, 0x00, 0x00, 0x00] = .error (.unknownOpcode 0x00) := rfl
theorem test_V151 : ∀ op ∈ [(0x16 : Byte), 0x02, 0x25, 0x34, 0x41, 0x58, 0xFF],
    decode [op, 0, 0, 0, 0] = .error (.unknownOpcode op) := by
  intro op h
  fin_cases h <;> rfl
theorem test_V152 : decode [0x10, 0x00, 0x00, 0x00, 0x01] = .error .reservedBits := rfl
theorem test_V153_low : decode [0x20, 0x00, 0x0B, 0x00, 0x01] = .error .reservedBits := rfl
theorem test_V153_high : decode [0x20, 0x01, 0x0B, 0x00, 0x00] = .error .reservedBits := rfl
theorem test_V154 : decode [0x21, 0x80, 0x0B, 0x12, 0x34] = .error .reservedBits := rfl
theorem test_V155 : decode [0x22, 0x1E, 0x06, 0x00, 0x01] = .error .reservedBits := rfl
theorem test_V156 : decode [0x24, 0x00, 0x00, 0x00, 0x02] = .error .reservedBits := rfl
theorem test_V158 : decode [0x51, 0x00, 0x00, 0x01, 0xFF] = .error .reservedBits := rfl
theorem test_V159 : decode [0x53, 0x00, 0x01, 0x00, 0x00] = .error .reservedBits := rfl
theorem test_V160 : decode [0x30, 0x00, 0x01, 0x00, 0x00] = .error .reservedBits := rfl
theorem test_V161 : ∀ n ∈ [0, 31, 33],
    decode ([0x14, 0x00, 0x00, 0x00, 0x00] ++ List.replicate n 0x55) = .error .payloadLength := by
  intro n h
  fin_cases h <;> rfl
theorem test_V162 : decode [0x15, 0x00, 0x00, 0x00, 0x00, 0x00] = .error .payloadLength := rfl
theorem test_V163 : decode [0x30, 0x00, 0x00, 0x00, 0x04, 0x00, 0x01, 0x02] = .error .payloadLength := rfl
theorem test_V164 : decode ([0x31, 0x00, 0x00, 0x00, 0x0A] ++ List.replicate 10 0) = .error .payloadLength := rfl
theorem test_V102 : decode [0x40, 0x00, 0x00, 0x00, 0x03, 0x00, 0x10, 0x80, 0x05] = .error .payloadLength := rfl
theorem test_message_without_a_word : decode [0x10, 0x00, 0x00, 0x00] = .error .noCommandWord := rfl

/-- No word selects two rows of the table (R96): the opcodes differ, and every mask holds all of the opcode. -/
theorem test_rows_do_not_overlap :
    opcodeTable.Pairwise (fun a b => a.op ≠ b.op) ∧
      ∀ r ∈ opcodeTable, r.mask &&& 0xFF00000000 = 0xFF00000000 ∧ r.pattern = r.op ++ (0 : Word) := by decide

/-- The table's numbering: a payload word of a row stands above bit 39, and bits from `nbits` on are 0. -/
theorem test_table_words :
    decodeTableWord 40 0x0800000000000 = none ∧ decodeTableWord 40 0x53000035AF = some (.setTone 3 5 10 15) ∧
      decodeTableWord 56 0x2211_3000000002 = some (.playChunk [0x11, 0x22]) ∧
      decodeTableWord 40 0x1400000000 = some (.rbWrite (List.replicate 32 0)) := by decide

/-- The textual form of R99. -/
theorem test_asm :
    (Instr.setBalance (BitVec.ofInt 8 (-100))).asm = "SET_BALANCE -100" ∧
      (Instr.regWrite 0x0B 0x1234).asm = "REG_WRITE 0x0B, 0x1234" ∧
      (Instr.loadPatch [0x0020, 0x0000]).asm = "LOAD_PATCH [ 0020 0000 ]" ∧
      (Instr.setTone 3 5 10 15).asm = "SET_TONE 3, 5, 10, 15" ∧ Instr.rbReset.asm = "RB_RESET" := by decide

/-! ## Helpers: the fixtures of 95_test_vectors.md as answers of the device -/

/-- A small configuration: a ring of 4 chunks, short bursts, one self-test sample, two rounds of STOP_SONG. -/
def small : Cfg :=
  { Cfg.default with capacity := 4, subchunkMax := 2, sweepEnd := 1, nStartFill := 3, nStopBig := 2, nStopSmall := 1,
                     stopBudget := 2 }

/-- An idle core after reset against a device that is ready for 40 polls and sends the given bytes. -/
def device (c : Cfg) (rx : List Byte) : State :=
  { State.reset with cfg := c, pollScript := List.replicate 40 true, rxScript := rx }

/-- A ring in the state `(RDI, WRI, CNT)`. -/
def ring (rdi wri cnt : Nat) : State := { device small [] with rdi := rdi, wri := wri, cnt := cnt }

/-- The last response and the events after a command, if it gives a next state. -/
def ran (i : Instr) (s : State) : Option (Option Response × List Event) :=
  match exec i s with
  | .next t => some (t.responses.head?, t.events)
  | _ => none

/-- A value of the state after a command. -/
def after {α : Type} (f : State → α) (i : Instr) (s : State) : Option α :=
  match exec i s with
  | .next t => some (f t)
  | _ => none

/-- `W(a, v)`, the device sending 0 (section 1.2). -/
def w (a vh vl : Byte) : List Event :=
  [.opened .ctrl, .poll true, .xfer 0x02 0, .xfer a 0, .xfer vh 0, .xfer vl 0, .poll true, .closed]

/-- `R(a)=v` (section 1.2). -/
def r (a vh vl : Byte) : List Event :=
  [.opened .ctrl, .poll true, .xfer 0x03 0, .xfer a 0, .xfer 0xFF vh, .xfer 0xFF vl, .poll true, .closed]

/-! ## One or two small runs of each command -/

theorem test_V6_rbWrite_wraps :
    after (fun t => ((t.rdi, t.wri, t.cnt), (t.storeByte 96, t.storeByte 127, Memory.wf t.store), t.events))
      (.rbWrite (List.replicate 32 7)) (ring 2 3 1) =
        some ((2, 0, 2), (7, 7, true), [.storeWrite 96 (List.replicate 32 7)]) := by decide
theorem test_V4_rbRead_empty : ran .rbRead (ring 0 0 0) = some (some ⟨.bufferEmpty, 0, []⟩, []) := by decide
theorem test_V7_rbRead_wraps :
    after (fun t => (t.rdi, t.wri, t.cnt, t.responses))
      .rbRead { ring 3 1 2 with store := Memory.writeBytes [] 96 (List.replicate 32 9) } =
        some (0, 1, 1, [⟨.ok, 0, List.replicate 32 9⟩]) := by decide
theorem test_V5_rbWrite_full :
    after (fun t => (t.rdi, t.wri, t.cnt, t.store.length, t.responses)) (.rbWrite (List.replicate 32 0x55)) (ring 1 1 4) =
      some (1, 1, 4, 0, [⟨.bufferFull, 0, []⟩]) := by decide
theorem test_V9_rbReset : after (fun t => (t.rdi, t.wri, t.cnt)) .rbReset (ring 3 1 2) = some (0, 0, 0) := by decide
theorem test_V5a_rbSpace_full : ran .rbSpace (ring 1 1 4) = some (some ⟨.ok, 0, []⟩, []) := by decide
theorem test_V1_rbSpace : ran .rbSpace (ring 0 0 0) = some (some ⟨.ok, 1, []⟩, []) := by decide
theorem test_V5a_rbAvail : ran .rbAvail (ring 1 1 4) = some (some ⟨.ok, 4, []⟩, []) := by decide
theorem test_V2_rbFree : ran .rbFree (ring 0 0 0) = some (some ⟨.ok, 4, []⟩, []) := by decide
theorem test_V20_regRead :
    ran (.regRead 0x0B) (device small [0, 0, 0x12, 0x34]) = some (some ⟨.ok, 0x1234, []⟩, r 0x0B 0x12 0x34) := by decide
theorem test_V21_regWrite :
    ran (.regWrite 0xFF 0xFFFF) (device small [0, 0, 0, 0]) = some (some ⟨.ok, 0, []⟩, w 0xFF 0xFF 0xFF) := by decide
theorem test_V23_wramWrite :
    ran (.wramWrite 0x1E07 0x00FF) (device small (List.replicate 8 0)) =
      some (some ⟨.ok, 0, []⟩, w 0x07 0x1E 0x07 ++ w 0x06 0x00 0xFF) := by decide
theorem test_V24_wramRead :
    ran (.wramRead 0x1E06) (device small [0, 0, 0, 0, 0, 0, 0x00, 0xFF]) =
      some (some ⟨.ok, 0xFF, []⟩, w 0x07 0x1E 0x06 ++ r 0x06 0x00 0xFF) := by decide
/-- R190 with two slow samples, 0 and 300 = 0x012C. -/
theorem test_selfTest_slow :
    ran (.selfTest false) (device { small with sweepEnd := 301 }
        (List.replicate 18 0 ++ [0x01, 0x2C, 0, 0, 0x01, 0x2C])) =
      some (some ⟨.ok, 1, []⟩, w 0x0B 0 0 ++ r 0x0B 0 0 ++ r 0x0B 0 0 ++ w 0x0B 0x01 0x2C ++ r 0x0B 0x01 0x2C ++
        r 0x0B 0x01 0x2C) := by decide
/-- R190: two reads that agree with each other but not with the value written are a mismatch; the sweep goes on to 3. -/
theorem test_selfTest_fast_mismatch :
    after (fun t => (t.responses, t.clocked)) (.selfTest true) (device { small with sweepEnd := 4 }
        ([0, 0, 0, 0, 0, 0, 0, 1, 0, 0, 0, 1] ++ [0, 0, 0, 0, 0, 0, 0, 3, 0, 0, 0, 3])) =
      some ([⟨.ok, 0, []⟩], 24) := by decide
theorem test_playChunk_bursts_of_two :
    ran (.playChunk [0x0A, 0x0B, 0x0C]) (device small [0, 0, 0]) =
      some (some ⟨.ok, 0, []⟩, [.opened .data, .poll true, .xfer 0x0A 0, .xfer 0x0B 0, .poll true, .xfer 0x0C 0,
        .closed]) := by decide
theorem test_V70_playChunk_empty : ran (.playChunk []) State.reset = some (some ⟨.ok, 0, []⟩, [.opened .data, .closed]) := by
  decide
theorem test_sendFill :
    ran (.sendFill 2) { device small [0, 0] with fill := 0xA5 } =
      some (some ⟨.ok, 0, []⟩, [.opened .data, .poll true, .xfer 0xA5 0, .xfer 0xA5 0, .closed]) := by decide
theorem test_V81_startSong :
    ran .startSong (device small [0, 0, 0]) =
      some (some ⟨.ok, 0, []⟩, [.opened .data, .poll true, .xfer 0 0, .xfer 0 0, .poll true, .xfer 0 0, .closed]) := by
  decide
/-- V83 in small: the bit reads set once, then clear. -/
theorem test_stopSong_second_round :
    after (fun t => (t.responses, t.modeMir, t.clocked, t.polled, t.busMode)) .stopSong
      (device small (List.replicate 9 0 ++ [0x08, 0x08] ++ List.replicate 3 0 ++ [0x08, 0x00, 0, 0])) =
        some ([⟨.ok, 1, []⟩], 0x0800, 18, 10, .idle) := by decide
/-- V84 in small: the bit never clears. -/
theorem test_stopSong_incomplete :
    after (fun t => (t.responses, t.modeMir, t.clocked, t.busMode)) .stopSong
      (device small (List.replicate 9 0 ++ [0x08, 0x08] ++ List.replicate 3 0 ++ [0x08, 0x08])) =
        some ([⟨.stopIncomplete, 2, []⟩], 0x0808, 16, .idle) := by decide
theorem test_V91_loadPatch_run :
    ran (.loadPatch [0x0010, 0x8002, 0x1234]) (device small (List.replicate 8 0)) =
      some (some ⟨.ok, 2, []⟩, w 0x10 0x12 0x34 ++ w 0x10 0x12 0x34) := by decide
theorem test_V97_loadPatch_second_record_short :
    ran (.loadPatch [0x0010, 0x8001, 0xAAAA, 0x0020, 0x0003, 0x0001, 0x0002]) (device small (List.replicate 4 0)) =
      some (some ⟨.patchFormatError, 3, []⟩, w 0x10 0xAA 0xAA) := by decide
theorem test_V43_begin_absent :
    after (fun t => (t.responses, t.events, t.status)) .begin { State.reset with pollScript := [false] } =
      some ([⟨.ok, 4, []⟩], [.speed .low, .resetAssert, .resetRelease, .poll false, .pullupOn], 0x4B) := by decide
/-- V41 in small: one sample a sweep, register 6 reads 0x12A5. -/
theorem test_V41_begin :
    after (fun t => (t.responses, t.fill, t.status, t.busMode)) .begin
      { device small (List.replicate 42 0 ++ [0x12, 0xA5]) with rdyPull := true, vol := 80 } =
        some ([⟨.ok, 3, []⟩], 0xA5, 0x51, .idle) := by decide
theorem test_V53_setBalance_after_setVolume :
    ran (.setBalance 100) { device small [0, 0, 0, 0] with vol := 50 } =
      some (some ⟨.ok, 0xFE7F, []⟩, w 0x0B 0xFE 0x7F) := by decide
theorem test_V69_setBalance_out_of_range :
    ran (.setBalance (BitVec.ofInt 8 (-101))) (device small []) = some (some ⟨.argRange, 0x9B, []⟩, []) := by decide
theorem test_V61_setVolume_clamps :
    ran (.setVolume 30) { device small [0, 0, 0, 0] with bal := 40 } =
      some (some ⟨.ok, 0xFEB2, []⟩, w 0x0B 0xFE 0xB2) := by decide
theorem test_V67_setVolume_out_of_range :
    ran (.setVolume 101) (device small []) = some (some ⟨.argRange, 0x65, []⟩, []) := by decide
theorem test_V112_setTone :
    ran (.setTone 3 5 10 15) (device small [0, 0, 0, 0]) = some (some ⟨.ok, 0x35AF, []⟩, w 0x02 0x35 0xAF) := by decide
theorem test_V121_isConnected_ones :
    ran .isConnected (device small [0, 0, 0xFF, 0xFF]) = some (some ⟨.ok, 0, []⟩, r 0x01 0xFF 0xFF) := by decide
theorem test_V123_isConnected :
    ran .isConnected (device small [0, 0, 0xFF, 0xFE]) = some (some ⟨.ok, 1, []⟩, r 0x01 0xFF 0xFE) := by decide
theorem test_V127_getTime :
    ran .getTime (device small [0, 0, 0xFF, 0xFF]) = some (some ⟨.ok, 0xFFFF, []⟩, r 0x04 0xFF 0xFF) := by decide
theorem test_V128_clrTime :
    ran .clrTime (device small (List.replicate 8 0)) = some (some ⟨.ok, 0, []⟩, w 0x04 0 0 ++ w 0x04 0 0) := by decide
theorem test_V130_adjRate :
    ran (.adjRate (BitVec.ofInt 32 (-100000))) (device small (List.replicate 22 0 ++ [0xAC, 0x45, 0, 0, 0, 0])) =
      some (some ⟨.ok, 0, []⟩, w 0x07 0x1E 0x07 ++ w 0x06 0x79 0x60 ++ w 0x06 0xFF 0xFE ++ w 0x07 0x5B 0x1C ++
        w 0x06 0x00 0x00 ++ r 0x05 0xAC 0x45 ++ w 0x05 0xAC 0x45) := by decide
theorem test_V144_getReg_balance : ran (.getReg 4) { State.reset with bal := -1 } = some (some ⟨.ok, 0xFFFFFFFF, []⟩, []) := by
  decide
theorem test_V147_getReg_out_of_range : ran (.getReg 10) State.reset = some (some ⟨.argRange, 10, []⟩, []) := by decide

/-- V50, the ends, the middle and two truncated levels. -/
theorem test_V50_channel_bytes :
    [0, 1, 25, 50, 99, 100].map channelByte = [0xFE, 0xFC, 0xBF, 0x7F, 0x03, 0x00] := by decide

/-- R94: the word of a response, highest byte first. -/
theorem test_response_bytes :
    Response.bytes ⟨.stopIncomplete, 0xC8, []⟩ = [0x06, 0x00, 0x00, 0x00, 0xC8] := by decide

/-! ## Steps: waits, time-outs, resets, illegal messages, placing an instruction -/

/-- A next state's value, of a step. -/
def stepped {α : Type} (f : State → α) (s : State) : Option α :=
  match step s with
  | .next t => some (f t)
  | _ => none

/-- A core at its first poll of a read that the device does not answer, after `n` such polls. -/
def waiting (c : Cfg) (n : Nat) (polls : List Bool) : State :=
  { State.reset with
    cfg := c, busMode := .active .ctrl, busy := true, pollScript := polls, trace := [.opened .ctrl]
    todo := ([.pollAgain, .send 0x03, .send 0x01, .recvHi, .recvLo, .wait, .closeBus, .answer .readValue] :
      List Prim).map .prim
    seq := { Sequencer.zero with polls := n } }

/-- V25: the first step of the read yields at its first poll. -/
theorem test_V25_first_wait :
    after (fun t => (t.events, t.busy, t.busMode, t.responses)) (.regRead 0x01) { State.reset with pollScript := [false] } =
      some ([.opened .ctrl, .poll false, .yield], true, .active .ctrl, []) := by decide
/-- V25: a later poll reads 1, and the read completes. -/
theorem test_V25_goes_on :
    stepped (fun t => (t.responses, t.events, t.busy, t.busMode))
      { waiting small 2 [true, true] with rxScript := [0, 0, 0x12, 0x34] } =
        some ([⟨.ok, 0x1234, []⟩], r 0x01 0x12 0x34, false, .idle) := by decide
/-- V28: the third poll of a wait bounded by 3. -/
theorem test_V28_times_out :
    stepped (fun t => (t.responses, t.events, t.busMode)) (waiting { small with waitBound := some 3 } 2 [false]) =
      some ([⟨.busTimeout, 0, []⟩], [.opened .ctrl, .poll false, .yield, .closed], .idle) := by decide
/-- V165: an illegal message with the ring full. -/
theorem test_V165 :
    stepped (fun t => (t.responses, t.cnt, t.inbox))
      { ring 1 1 4 with inbox := [[0x14, 0, 0, 0, 0] ++ List.replicate 31 0x55] } =
        some ([⟨.illegalCommand, 0, []⟩], 4, []) := by decide
/-- R311: a hardware reset while a command waits: no response, no event, the message behind it still waits. -/
theorem test_reset_ends_a_wait :
    stepped (fun t => ((t.busy, t.busMode), t.responses, t.trace, t.inbox))
      { waiting small 0 [] with resetScript := [0], inbox := [[0x10, 0, 0, 0, 0]] } =
        some ((false, .idle), [], [.opened .ctrl], [[0x10, 0, 0, 0, 0]]) := by decide
/-- R310 (a): a hardware reset that strikes after two micro-operations of a write frame leaves the transaction without its
`CLOSE`. -/
theorem test_reset_strikes_inside_a_frame :
    after (fun t => (t.busy, t.busMode, t.responses, t.events)) (.regWrite 0x0B 0x1234)
      { device small [0] with resetScript := [2] } = some (false, .idle, [], [.opened .ctrl, .poll true]) := by decide
/-- R311: a reset due right after a GET_REG is taken ends it without a response; one micro-operation later it has answered, and
the reset comes before the next message. -/
theorem test_reset_between_message_and_first_line :
    stepped (fun t => (t.responses, t.inbox.length, t.resets)) { State.reset with
      inbox := [[0x01, 0, 0, 0, 9], [0x10, 0, 0, 0, 0]], resetScript := [1] } = some ([], 1, 1) ∧
    stepped (fun t => (t.responses, t.inbox.length, t.resetScript)) { State.reset with
      inbox := [[0x01, 0, 0, 0, 9], [0x10, 0, 0, 0, 0]], resetScript := [2] } =
        some ([⟨.ok, 0x1000, []⟩], 1, [0]) := by decide
/-- R311: the same for an error: an illegal message, and RB_WRITE on a full ring. -/
theorem test_reset_around_an_error :
    stepped (fun t => (t.responses, t.inbox.length)) { State.reset with inbox := [[0x00, 0, 0, 0, 0]], resetScript := [1] } =
      some ([], 0) ∧
    stepped (fun t => (t.responses, t.resetScript)) { State.reset with inbox := [[0x00, 0, 0, 0, 0]], resetScript := [2] } =
      some ([⟨.illegalCommand, 0, []⟩], [0]) ∧
    after (fun t => (t.responses, t.resetScript)) (.rbWrite (List.replicate 32 0))
      { ring 1 1 4 with resetScript := [1] } = some ([⟨.bufferFull, 0, []⟩], [0]) := by decide
/-- R311, R165: a reset between the sample that reads 0, the yield, the close and the response of a wait that gives up. -/
theorem test_reset_inside_giving_up :
    [1, 2, 3].map (fun n => stepped (fun t => (t.responses, t.events))
      { waiting { small with waitBound := some 3 } 2 [false] with resetScript := [n] }) =
    [some ([], [.opened .ctrl, .poll false]), some ([], [.opened .ctrl, .poll false, .yield]),
      some ([], [.opened .ctrl, .poll false, .yield, .closed])] := by decide
theorem test_withFetchWord_runs :
    stepped (fun t => t.responses) (State.reset.withFetchWord 40 0x0100000009) = some [⟨.ok, 0x1000, []⟩] := by decide

/-! ## Witnesses: the hypotheses of each statement hold together somewhere -/

/-- A ready device for the witnesses. -/
theorem device_ready (c : Cfg) (rx : List Byte) (n : Nat) (h : n ≤ 40) : DeviceReady (device c rx) n :=
  (deviceReady_of_script (device c rx) 40 rfl rfl).mono h

theorem witness_HardwareResetEndsTheCommand_due :
    { waiting small 0 [] with resetScript := [0, 7] }.resetScript = 0 :: [7] := rfl

/-- A waiting core satisfies the invariant. -/
theorem waiting_inv (n : Nat) (polls : List Bool) : (waiting small n polls).Inv where
  cfg := by show small.wf = true; decide
  rdi := by show 0 < 4; decide
  cnt := by show 0 ≤ 4; decide
  wri := by show 0 = (0 + 0) % 4; decide
  store := rfl
  range := by intro c hc; exact absurd hc List.not_mem_nil
  vol := by show 0 ≤ 100; decide
  bal := by show (0 : Int).natAbs ≤ 100; decide
  pulse := rfl
  idle := by intro h; exact absurd h (by show ¬ (true = false); decide)
  waiting := by
    intro _
    exact ⟨⟨_, rfl⟩, rfl, rfl, rfl⟩

theorem witness_HardwareResetEndsTheCommand_first_step :
    (device small []).resetScript = [] ∧ (device small []).busMode = .idle ∧
      ∃ t, exec (.regWrite 0x0B 0x1234) (device small []) = .next t := ⟨rfl, rfl, _, rfl⟩
theorem witness_HardwareResetEndsTheCommand_later_step :
    (waiting small 0 [true]).Inv ∧ (waiting small 0 [true]).busy = true ∧ (waiting small 0 [true]).resetScript = [] ∧
      ∃ t, step (waiting small 0 [true]) = .next t := ⟨waiting_inv _ _, rfl, rfl, _, rfl⟩

/-- An idle core with a ring of 4 chunks that holds `cnt` of them from index `rdi` on satisfies the invariant. -/
theorem ring_inv (rdi cnt : Nat) (h : rdi < 4) (hc : cnt ≤ 4) : (ring rdi ((rdi + cnt) % 4) cnt).Inv where
  cfg := by show small.wf = true; decide
  rdi := h
  cnt := hc
  wri := rfl
  store := rfl
  range := by intro c hc; exact absurd hc List.not_mem_nil
  vol := by show 0 ≤ 100; decide
  bal := by show (0 : Int).natAbs ≤ 100; decide
  pulse := rfl
  idle := by intro _; exact ⟨rfl, rfl⟩
  waiting := by intro hb; exact absurd hb (by show ¬ (false = true); decide)

theorem witness_StepKeepsTheInvariant :
    (waiting small 0 [false]).Inv ∧ ∃ t, step (waiting small 0 [false]) = .next t := ⟨waiting_inv _ _, _, rfl⟩
theorem witness_StepKeepsTheTraceBracketed :
    (waiting small 0 [true]).Inv ∧ (waiting small 0 [true]).resetScript = [] ∧
      traceMode (waiting small 0 [true]).trace = some (waiting small 0 [true]).busMode ∧
      ∃ t, step (waiting small 0 [true]) = .next t := ⟨waiting_inv _ _, rfl, rfl, _, rfl⟩
theorem witness_RingRegistersFitTheirWidths : (ring 3 3 4).Inv := ring_inv 3 4 (by decide) (by decide)
theorem witness_PinsFollowTheBusMode : (waiting small 0 []).pulse = false := rfl
theorem witness_DecodeOfEncodeIsTheCommand :
    (Instr.playChunk (List.replicate 65535 0)).wellFormed = true ∧ (Instr.rbWrite (List.replicate 32 0)).wellFormed = true :=
  ⟨test_playChunk_of_65535_bytes_accepted, test_rbWrite_of_32_bytes_accepted⟩
theorem witness_EncodeOfDecodeIsTheMessage : decode [0x31, 0x00, 0x00, 0xFF, 0xFF] = .ok (.sendFill 0xFFFF) := rfl

theorem witness_IllegalMessageIsDropped_word :
    { State.reset with inbox := [[0x20, 0x00, 0x0B, 0x00, 0x01]] }.resetScript = [] ∧
    ¬ ((∃ r ∈ opcodeTable, ((0x20 : Byte) ++ wordOf 0x00 0x0B 0x00 0x01 : CommandWord) &&& r.mask = r.pattern) ∧
        ([] : List Byte).length = payloadLength 0x20 ((0x00 : Byte) ++ (0x01 : Byte))) := by decide
theorem witness_IllegalMessageIsDropped_payload :
    ¬ ((∃ r ∈ opcodeTable, ((0x30 : Byte) ++ wordOf 0 0 0 4 : CommandWord) &&& r.mask = r.pattern) ∧
        ([0, 0, 0] : List Byte).length = payloadLength 0x30 ((0x00 : Byte) ++ (0x04 : Byte))) := by decide

/-- A core with one message at its port. -/
def told (m : Message) : State := { State.reset with inbox := [m] }

theorem witness_StepRunsTheDecodedCommand :
    (told [0x11, 0, 0, 0, 0]).busy = false ∧ (told [0x11, 0, 0, 0, 0]).inbox = [0x11, 0, 0, 0, 0] :: [] ∧
      decode [0x11, 0, 0, 0, 0] = .ok .rbSpace ∧ (told [0x11, 0, 0, 0, 0]).resetScript = [] ∧
      { told [0x11, 0, 0, 0, 0] with resetScript := [1, 5] }.resetScript = (0 + 1) :: [5] := ⟨rfl, rfl, rfl, rfl, rfl⟩
theorem witness_IdleStepHoldsTheState :
    State.reset.resetScript = [] ∧ State.reset.busy = false ∧ State.reset.inbox = [] := by decide
theorem witness_EveryCommandIsAccepted :
    State.reset.rdi < State.reset.cfg.capacity ∧ State.reset.wri < State.reset.cfg.capacity := by decide
theorem witness_CommandAnswersOnceOrWaits : ∃ t, exec (.regRead 1) (device small []) = .next t := ⟨_, rfl⟩
theorem witness_BusyStepTakesNoMessage :
    (waiting small 0 []).resetScript = [] ∧ (waiting small 0 []).busy = true ∧ ∃ t, step (waiting small 0 []) = .next t :=
  ⟨rfl, rfl, _, rfl⟩
theorem witness_UnansweredWaitGoesOn :
    (waiting small 0 [false]).resetScript = [] ∧ (waiting small 0 [false]).busy = true ∧
      (∃ rest, (waiting small 0 [false]).todo = .prim .pollAgain :: rest) ∧
      (waiting small 0 [false]).cfg.waitBound = none ∧ (waiting small 0 [false]).pollAt 0 = false :=
  ⟨rfl, rfl, ⟨_, rfl⟩, rfl, rfl⟩
theorem witness_AnsweredWaitGoesOn :
    (waiting small 0 [true]).resetScript = [] ∧ (waiting small 0 [true]).busy = true ∧
      (∃ rest, (waiting small 0 [true]).todo = .prim .pollAgain :: rest) ∧ (waiting small 0 [true]).pollAt 0 = true :=
  ⟨rfl, rfl, ⟨_, rfl⟩, rfl⟩
theorem witness_WaitNeverAnsweredHangs :
    (waiting small 0 [false, false, false]).resetScript = [] ∧ (waiting small 0 [false, false, false]).busy = true ∧
      (∃ rest, (waiting small 0 [false, false, false]).todo = .prim .pollAgain :: rest) ∧
      (waiting small 0 [false, false, false]).cfg.waitBound = none ∧
      ∀ k, k < 3 → (waiting small 0 [false, false, false]).pollAt k = false :=
  ⟨rfl, rfl, ⟨_, rfl⟩, rfl, by intro k hk; interval_cases k <;> rfl⟩
/-- A core in the middle of a command, with no line put off: before a wait's first sample. -/
def between (c : Cfg) (polls : List Bool) : State := { waiting c 7 polls with todo := [] }

theorem no_bound {w : Option Nat} (h : w = none) : ∀ k, w = some k → 1 < k := by simp [h]
theorem bound_of_two {w : Option Nat} (h : w = some 2) : ∀ k, w = some k → 1 < k := by simp [h]

theorem witness_first_sample_goes_on : ∀ w, w = none ∨ w = some 2 →
    let s := between { small with waitBound := w } [false]
    s.resetScript = [] ∧ s.busy = true ∧ s.todo = [] ∧ (∀ k, s.cfg.waitBound = some k → 1 < k) ∧ s.pollAt 0 = false := by
  intro w h
  rcases h with rfl | rfl
  · exact ⟨rfl, rfl, rfl, no_bound rfl, rfl⟩
  · exact ⟨rfl, rfl, rfl, bound_of_two rfl, rfl⟩
theorem witness_first_sample_answered :
    (between small [true]).resetScript = [] ∧ (between small [true]).busy = true ∧ (between small [true]).todo = [] ∧
      (between small [true]).pollAt 0 = true := ⟨rfl, rfl, rfl, rfl⟩
theorem witness_first_sample_times_out :
    let s := between { small with waitBound := some 1 } [false]
    s.resetScript = [] ∧ s.busy = true ∧ s.todo = [] ∧ s.cfg.waitBound = some 1 ∧ s.pollAt 0 = false :=
  ⟨rfl, rfl, rfl, rfl, rfl⟩

/-- Commands at the ends of their operands' ranges that wait in their first transaction, and some that do not. -/
theorem witness_firstWait :
    ([.regRead 0, .setVolume 100, .setBalance 0x9C, .setBalance 0x64, .selfTest true, .loadPatch [0x00FF, 0x8001, 0],
      .loadPatch [0x0010, 0x0001, 7], .adjRate 0] : List Instr).all (fun i => firstWait small i == some .ctrl) = true ∧
    ([.playChunk [1], .sendFill 1, .startSong, .stopSong] : List Instr).all
      (fun i => firstWait small i == some .data) = true ∧
    ([.setVolume 101, .setBalance 0x65, .loadPatch [0x0100, 0x8001, 0], .loadPatch [0x0010, 0x8000, 7],
      .loadPatch [0x0010, 0x8001], .playChunk [], .sendFill 0, .begin, .rbRead] : List Instr).all
      (fun i => firstWait small i == none) = true := by decide

/-- A core before its first command, against a device that answers as listed. -/
def answering (c : Cfg) (polls : List Bool) : State := { State.reset with cfg := c, pollScript := polls }

theorem witness_first_wait_goes_on :
    firstWait small (.sendFill 1) = some .data ∧ (answering small [false]).resetScript = [] ∧
      (∀ k, (answering small [false]).cfg.waitBound = some k → 1 < k) ∧ (answering small [false]).pollAt 0 = false :=
  ⟨rfl, rfl, no_bound rfl, rfl⟩
theorem witness_first_wait_times_out :
    let s := answering { small with waitBound := some 1 } [false]
    firstWait s.cfg (.regRead 1) = some .ctrl ∧ s.resetScript = [] ∧ s.cfg.waitBound = some 1 ∧ s.pollAt 0 = false :=
  ⟨rfl, rfl, rfl, rfl⟩
theorem witness_begin_first_wait :
    0 < (answering small [true, false]).cfg.sweepEnd ∧ (answering small [true, false]).resetScript = [] ∧
      (∀ k, (answering small [true, false]).cfg.waitBound = some k → 1 < k) ∧
      (answering small [true, false]).pollAt 0 = true ∧ (answering small [true, false]).pollAt 1 = false :=
  ⟨by decide, rfl, no_bound rfl, rfl, rfl⟩
theorem witness_begin_first_wait_times_out :
    let s := answering { small with waitBound := some 1 } [true, false]
    0 < s.cfg.sweepEnd ∧ s.resetScript = [] ∧ s.cfg.waitBound = some 1 ∧ s.pollAt 0 = true ∧ s.pollAt 1 = false :=
  ⟨by decide, rfl, rfl, rfl, rfl⟩

/-- The third sample of a wait bounded by 3 gives up, the second goes on. -/
theorem witness_BoundedWaitTimesOut : ∀ n, n = 1 ∨ n = 2 →
    let s := waiting { small with waitBound := some 3 } n [false]
    s.resetScript = [] ∧ s.busy = true ∧ (∃ rest, s.todo = .prim .pollAgain :: rest) ∧ s.cfg.waitBound = some 3 ∧
      s.pollAt 0 = false ∧ (s.seq.polls + 1 < 3 ↔ n = 1) := by
  intro n h
  rcases h with rfl | rfl
  · exact ⟨rfl, rfl, ⟨_, rfl⟩, rfl, rfl, by decide⟩
  · exact ⟨rfl, rfl, ⟨_, rfl⟩, rfl, rfl, by decide⟩

theorem witness_RbResetEmptiesTheRing : (ring 3 1 2).resetScript = [] ∧ 1 ≤ (ring 3 1 2).cfg.capacity := by decide
theorem witness_RingQueriesAnswer : (ring 3 1 2).resetScript = [] ∧ 4294967295 < 2 ^ 32 := by decide
theorem witness_RbWrite_full :
    (ring 1 1 4).resetScript = [] ∧ (ring 1 1 4).busMode = .idle ∧ (List.replicate 32 (0 : Byte)).length = 32 ∧
      (ring 1 1 4).wri < (ring 1 1 4).cfg.capacity ∧ (ring 1 1 4).cnt = (ring 1 1 4).cfg.capacity := by decide
theorem witness_RbWrite_last_free :
    (ring 0 3 3).resetScript = [] ∧ (ring 0 3 3).busMode = .idle ∧ (List.replicate 32 (0 : Byte)).length = 32 ∧
      (ring 0 3 3).wri < (ring 0 3 3).cfg.capacity ∧ (ring 0 3 3).cnt ≠ (ring 0 3 3).cfg.capacity := by decide
theorem witness_RbRead_empty :
    (ring 3 3 0).resetScript = [] ∧ (ring 3 3 0).busMode = .idle ∧ (ring 3 3 0).rdi < (ring 3 3 0).cfg.capacity ∧
      (ring 3 3 0).cnt ≤ (ring 3 3 0).cfg.capacity ∧ (ring 3 3 0).cnt = 0 := by decide
theorem witness_RbRead_last_chunk :
    (ring 3 0 1).resetScript = [] ∧ (ring 3 0 1).busMode = .idle ∧ (ring 3 0 1).rdi < (ring 3 0 1).cfg.capacity ∧
      (ring 3 0 1).cnt ≤ (ring 3 0 1).cfg.capacity ∧ (ring 3 0 1).cnt ≠ 0 := by decide
theorem witness_RingIndexOutsideTheStoreFaults :
    ((ring 0 4 0).cnt ≠ (ring 0 4 0).cfg.capacity ∧ (ring 0 4 0).cfg.capacity ≤ (ring 0 4 0).wri) ∧
      (ring 4 0 1).cnt ≠ 0 ∧ (ring 4 0 1).cfg.capacity ≤ (ring 4 0 1).rdi := by decide
theorem witness_HardwareResetEndsTheCommand_message :
    (device small []).resetScript = [] ∧ (device small []).busMode = .idle ∧
      ∃ t, takeMessage [0x00, 0, 0, 0, 0] (device small []).inbox (device small []) = .next t := ⟨rfl, rfl, _, rfl⟩
theorem witness_HardwareResetEndsTheCommand_taken :
    { ring 0 0 0 with inbox := [[0x01, 0, 0, 0, 9]], resetScript := [1] }.Inv ∧
      { ring 0 0 0 with inbox := [[0x01, 0, 0, 0, 9]], resetScript := [1] }.busy = false := by
  obtain ⟨a, b, c, d, e, f, g, h, i, j, k⟩ := ring_inv 0 0 (by decide) (by decide)
  exact ⟨⟨a, b, c, d, e, f, g, h, i, j, k⟩, rfl⟩
theorem witness_RingCommandsRefineTheQueue_full :
    (ring 3 3 4).Inv ∧ (ring 3 3 4).busy = false ∧ (ring 3 3 4).resetScript = [] ∧
      (List.replicate 32 (0 : Byte)).length = 32 := ⟨ring_inv 3 4 (by decide) (by decide), rfl, rfl, by decide⟩
theorem witness_RingCommandsRefineTheQueue_empty :
    (ring 0 0 0).Inv ∧ (ring 0 0 0).busy = false ∧ (ring 0 0 0).resetScript = [] :=
  ⟨ring_inv 0 0 (by decide) (by decide), rfl, rfl⟩
theorem witness_RingIsFirstInFirstOut :
    (ring 3 0 1).Inv ∧ (ring 3 0 1).busy = false ∧ (ring 3 0 1).resetScript = [] ∧
      ∀ chunk, RingCommand.write chunk ∈ [RingCommand.write (List.replicate 32 1), .read, .read] → chunk.length = 32 := by
  refine ⟨ring_inv 3 1 (by decide) (by decide), rfl, rfl, ?_⟩
  intro chunk h
  simp at h
  simp [h]

/-- REG_READ, REG_WRITE, SET_TONE, IS_CONNECTED, GET_TIME: two polls. -/
theorem witness_two_polls : DeviceReady (device small []) 2 := device_ready _ _ _ (by decide)
/-- WRAM_READ, WRAM_WRITE, CLR_TIME: four polls. -/
theorem witness_four_polls : DeviceReady (device small []) 4 := device_ready _ _ _ (by decide)
theorem witness_EchoedRegisterReadsBack :
    DeviceReady (device small [0, 0, 0, 0, 0, 0, 0xFF, 0xFE]) 4 ∧
      (device small [0, 0, 0, 0, 0, 0, 0xFF, 0xFE]).rxAt 6 = hiByte 0xFFFE ∧
      (device small [0, 0, 0, 0, 0, 0, 0xFF, 0xFE]).rxAt 7 = loByte 0xFFFE :=
  ⟨device_ready _ _ _ (by decide), rfl, rfl⟩
theorem witness_SelfTest_slow :
    (device small []).busMode = .idle ∧ DeviceReady (device small []) (6 * sampleCount small 300) :=
  ⟨rfl, device_ready _ _ _ (by decide)⟩
theorem witness_SelfTest_fast :
    (device small []).busMode = .idle ∧ DeviceReady (device small []) (6 * sampleCount small 3) :=
  ⟨rfl, device_ready _ _ _ (by decide)⟩
/-- The sweep without a sample. -/
theorem witness_SelfTest_empty :
    let s := device { small with sweepEnd := 0 } []
    s.busMode = .idle ∧ DeviceReady s (6 * sampleCount s.cfg 3) := ⟨rfl, device_ready _ _ _ (by decide)⟩
theorem witness_StreamCommandsSendEveryByte :
    1 ≤ (device small []).cfg.subchunkMax ∧
      DeviceReady (device small []) (streamPolls small [(1 : Byte), 2, 3].length) ∧
      DeviceReady (device small []) (streamPolls small (0 : Half).toNat) ∧
      DeviceReady (device small []) (streamPolls small small.nStartFill) :=
  ⟨by decide, device_ready _ _ _ (by decide), device_ready _ _ _ (by decide), device_ready _ _ _ (by decide)⟩
theorem witness_EmptyStreamCannotBlock : (waiting small 0 []).resetScript = [] := rfl

/-- A device that answers STOP_SONG's two mode reads with the given values, in the small configuration. -/
def stopping (a b : Byte) : State :=
  device small (List.replicate 9 0 ++ [0, a] ++ List.replicate 3 0 ++ [0, b] ++ List.replicate 4 0)

theorem witness_StopSong_first_round :
    1 ≤ (stopping 0 0).cfg.subchunkMax ∧ 0 < (stopping 0 0).cfg.stopBudget ∧ cancelAt (stopping 0 0) 0 = false ∧
      DeviceReady (stopping 0 0) (stopPolls small 1 + streamPolls small small.nStopBig) :=
  ⟨by decide, by decide, by decide, device_ready _ _ _ (by decide)⟩
theorem witness_StopSong_last_round :
    1 ≤ (stopping 8 0).cfg.subchunkMax ∧ 1 < (stopping 8 0).cfg.stopBudget ∧
      (∀ j, j < 1 → cancelAt (stopping 8 0) j = true) ∧ cancelAt (stopping 8 0) 1 = false ∧
      DeviceReady (stopping 8 0) (stopPolls small 2 + streamPolls small small.nStopBig) :=
  ⟨by decide, by decide, by intro j hj; interval_cases j; decide, by decide, device_ready _ _ _ (by decide)⟩
theorem witness_StopSong_budget_used :
    1 ≤ (stopping 8 8).cfg.subchunkMax ∧ (∀ j, j < (stopping 8 8).cfg.stopBudget → cancelAt (stopping 8 8) j = true) ∧
      DeviceReady (stopping 8 8) (stopPolls small small.stopBudget) :=
  ⟨by decide, by
    intro j hj
    replace hj : j < 2 := hj
    interval_cases j <;> decide, device_ready _ _ _ (by decide)⟩
theorem witness_StopSong_budget_zero :
    let s := device { small with stopBudget := 0 } []
    1 ≤ s.cfg.subchunkMax ∧ (∀ j, j < s.cfg.stopBudget → cancelAt s j = true) ∧ DeviceReady s (stopPolls s.cfg 0) :=
  ⟨by decide, by intro j hj; exact absurd hj (by show ¬ j < 0; omega), device_ready _ _ _ (by decide)⟩

/-- Two records: a run of two and a copy of one. -/
def records : List PatchRecord := [.run 0x10 2 0x1234, .copy 0x20 [0x0001]]

theorem witness_LoadPatchWritesEveryRecord :
    (∀ q ∈ records, q.valid = true) ∧
      DeviceReady (device small []) (2 * (records.flatMap PatchRecord.writes).length) :=
  ⟨by decide, device_ready _ _ _ (by decide)⟩
theorem witness_LoadPatchRefuses_lone_word : Malformed [0x0010] := .inl ⟨_, rfl⟩
theorem witness_LoadPatchRefuses_address : Malformed [0x0100, 0x8001, 0x0000] :=
  .inr ⟨_, _, _, rfl, .inl (by decide)⟩
theorem witness_LoadPatchRefuses_run : Malformed [0x0010, 0x8005] := .inr ⟨_, _, _, rfl, .inr (.inl ⟨by decide, rfl⟩)⟩
theorem witness_LoadPatchRefuses_copy :
    (device small []).busMode = .idle ∧ (∀ q ∈ records, q.valid = true) ∧ Malformed [0x0020, 0x0003, 0x0001, 0x0002] ∧
      DeviceReady (device small []) (2 * (records.flatMap PatchRecord.writes).length) :=
  ⟨rfl, by decide, .inr ⟨_, _, _, rfl, .inr (.inr ⟨by decide, by decide⟩)⟩, device_ready _ _ _ (by decide)⟩
theorem witness_LoadPatchDocumentRecords : DeviceReady (device small []) 10 := device_ready _ _ _ (by decide)

theorem witness_BeginWithoutReadyLineIsDegraded :
    { State.reset with pollScript := [false] }.resetScript = [] ∧
      { State.reset with pollScript := [false] }.pollAt 0 = false := ⟨rfl, rfl⟩
theorem witness_BeginFailingAtLowSpeed :
    DeviceReady (device small (List.replicate 6 0 ++ [0, 1] ++ List.replicate 4 0)) (1 + 6 * sampleCount small 300) ∧
      sweepOK (device small (List.replicate 6 0 ++ [0, 1] ++ List.replicate 4 0)) 0 300 (sampleCount small 300) = false :=
  ⟨device_ready _ _ _ (by decide), by decide⟩
theorem witness_BeginBringsTheDeviceUp :
    DeviceReady (device small (List.replicate 44 0)) (1 + 6 * sampleCount small 300 + 6 + 6 * sampleCount small 3 + 4) ∧
      sweepOK (device small (List.replicate 44 0)) 0 300 (sampleCount small 300) = true ∧
      sweepOK (device small (List.replicate 44 0)) (12 * sampleCount small 300 + 12) 3 (sampleCount small 3) = true :=
  ⟨device_ready _ _ _ (by decide), by decide, by decide⟩
theorem witness_BeginFailingAtHighSpeed :
    DeviceReady (device small (List.replicate 30 0 ++ [1] ++ List.replicate 13 0))
        (1 + 6 * sampleCount small 300 + 6 + 6 * sampleCount small 3 + 4) ∧
      sweepOK (device small (List.replicate 30 0 ++ [1] ++ List.replicate 13 0)) 0 300 (sampleCount small 300) = true ∧
      sweepOK (device small (List.replicate 30 0 ++ [1] ++ List.replicate 13 0)) (12 * sampleCount small 300 + 12) 3
        (sampleCount small 3) = false :=
  ⟨device_ready _ _ _ (by decide), by decide, by decide⟩

theorem witness_VolumeValueFromTheLevels : (100 : Nat) ≤ 100 ∧ (-100 : Int) ≤ -100 ∧ (-100 : Int) ≤ 100 := by decide
/-- Each branch, at the last volume in range and the first outside it. -/
theorem witness_SetVolume_boundary :
    (100 : Byte).toNat ≤ 100 ∧ DeviceReady (device small []) 2 ∧ ¬ (101 : Byte).toNat ≤ 100 ∧
      (device small []).resetScript = [] ∧ (device small []).busMode = .idle :=
  ⟨by decide, device_ready _ _ _ (by decide), by decide, rfl, rfl⟩
/-- Each branch, at both ends of the range and right outside them. -/
theorem witness_SetBalance_boundaries :
    (-100 ≤ (0x9C : Byte).toInt ∧ (0x9C : Byte).toInt ≤ 100) ∧ (-100 ≤ (0x64 : Byte).toInt ∧ (0x64 : Byte).toInt ≤ 100) ∧
      DeviceReady (device small []) 2 ∧ ¬ (-100 ≤ (0x9B : Byte).toInt ∧ (0x9B : Byte).toInt ≤ 100) ∧
      ¬ (-100 ≤ (0x65 : Byte).toInt ∧ (0x65 : Byte).toInt ≤ 100) ∧
      (device small []).resetScript = [] ∧ (device small []).busMode = .idle :=
  ⟨by decide, by decide, device_ready _ _ _ (by decide), by decide, by decide, rfl, rfl⟩
/-- Each of the three examples. -/
theorem witness_VolumeDocumentExamples :
    DeviceReady (device small []) 4 ∧
      ∀ p ∈ [((100, 0, 0x0000) : Byte × Byte × Half), (0, 0, 0xFEFE), (50, 100, 0xFE7F)],
        (p.1, p.2.1, p.2.2) ∈ [((100, 0, 0x0000) : Byte × Byte × Half), (0, 0, 0xFEFE), (50, 100, 0xFE7F)] :=
  ⟨device_ready _ _ _ (by decide), fun _ h => h⟩
theorem witness_AdjRateCompletes : DeviceReady (device small []) 14 := device_ready _ _ _ (by decide)
theorem witness_GetReg_boundary :
    State.reset.resetScript = [] ∧ (9, zext32 4096) ∈ [((9, zext32 4096) : Byte × Word)] ∧ 9 < (10 : Byte).toNat ∧
      State.reset.busMode = .idle := ⟨rfl, by simp, by decide, rfl⟩
/-- A command's first state and, one step later, its second. -/
theorem witness_OnlyTheNamedCommandsWrite_run :
    (answering small [false, false]).resetScript = [] ∧
      ∃ t u, exec (.regRead 0x01) (answering small [false, false]) = .next t ∧ t.busy = true ∧ step t = .next u ∧
        CommandRun t u :=
  ⟨rfl, _, _, rfl, rfl, rfl, .next .here rfl rfl⟩
/-- OnlyTheNamedCommandsWrite and StoreAndBusPortsAreSeparate, a step of a command in progress. -/
theorem witness_step_in_progress :
    (waiting small 0 [true]).Inv ∧ (waiting small 0 [true]).busy = true ∧ (waiting small 0 [true]).resetScript = [] ∧
      ∃ t, step (waiting small 0 [true]) = .next t := ⟨waiting_inv _ _, rfl, rfl, _, rfl⟩
theorem witness_StoreAndBusPortsAreSeparate_begins :
    (ring 0 3 3).resetScript = [] ∧ (ring 0 3 3).busMode = .idle ∧
      ∃ t, exec (.rbWrite (List.replicate 32 0)) (ring 0 3 3) = .next t := ⟨rfl, rfl, _, rfl⟩
theorem witness_NoCommandIsGatedByStatus :
    (device small []).resetScript = [] ∧ Instr.playChunk [1] ≠ .begin ∧ Instr.playChunk [1] ≠ .getReg 8 := by decide

end Sys2Proof.Tests
end

section
/-!
PROOFS. The statements about the state itself (10_state.md): the reset values, the flags, `STATUS` and the pins, and RB_RESET;
with them what an answer sent at once leaves of the registers and the ports.
-/

namespace Sys2Proof.Machine

variable (s : State)

/-! ### The flags, `STATUS` and the pins (R31, R38, R40) -/

@[simp] theorem full_eq_true_iff : s.full = true ↔ s.cnt = s.cfg.capacity := by simp [State.full]

@[simp] theorem empty_eq_true_iff : s.empty = true ↔ s.cnt = 0 := by simp [State.empty]

@[simp] theorem BusSpeed.bit_eq_true_iff (v : BusSpeed) : v.bit = true ↔ v = .high := by
  cases v <;> simp [BusSpeed.bit]

/-- Bit `k` of `STATUS` is the `k`-th flag of R40's list, and 0 past its end. -/
theorem status_getLsbD (k : Nat) :
    s.status.getLsbD k =
      ([s.ready, s.degraded, s.hsFail, s.rdyPull, s.busSpd.bit, s.full, s.empty][k]?).getD false := by
  unfold State.status
  simp only [BitVec.getLsbD_append]
  match k with
  | 0 | 1 | 2 | 3 | 4 | 5 | 6 => simp
  | k + 7 => simp

theorem selCtl_eq_true_iff : s.selCtl = true ↔ s.busMode = .active .ctrl ∨ s.pulse = true := by
  simp [State.selCtl]

theorem selDat_eq_true_iff : s.selDat = true ↔ s.busMode = .active .data ∨ s.pulse = true := by
  simp [State.selDat]

/-- Outside the reset pulse each select line names the one mode of `BUSMODE`, so not both are asserted. -/
theorem not_selCtl_and_selDat (hp : s.pulse = false) : ¬ (s.selCtl = true ∧ s.selDat = true) := by
  simp only [selCtl_eq_true_iff, selDat_eq_true_iff, hp, Bool.false_eq_true, or_false]
  rintro ⟨hctl, hdat⟩
  simp [hctl] at hdat

/-! ### An answer sent at once -/

/-- The ports of the core in `t`, the device's answers and the draws' counters are those in `s`. -/
structure SamePorts (s t : State) : Prop where
  responses : t.responses = s.responses
  trace : t.trace = s.trace
  inbox : t.inbox = s.inbox
  resetScript : t.resetScript = s.resetScript
  resets : t.resets = s.resets
  pollScript : t.pollScript = s.pollScript
  polled : t.polled = s.polled
  rxScript : t.rxScript = s.rxScript
  clocked : t.clocked = s.clocked

/-- A command that answers without having touched a port has ended with that response and no event. -/
theorem SamePorts.ended_respond {s t : State} (h : SamePorts s t) (st : Status) (v : Word) (p : List Byte) :
    Ended s (t.respond st v p) ⟨st, v, p⟩ [] 0 0 where
  busy := rfl
  todo := rfl
  responses := by simp [h.responses]
  events := by simp [State.events, h.trace]
  inbox := h.inbox
  resetScript := h.resetScript
  resets := h.resets
  pollScript := h.pollScript
  polled := h.polled
  rxScript := h.rxScript
  clocked := h.clocked

/-- Taking a command and answering it writes no register and no byte of the store. -/
theorem sameRegisters_accept_respond (st : Status) (v : Word) (p : List Byte) :
    SameRegisters s (s.accept.respond st v p) where
  cfg := rfl
  rdi := rfl
  wri := rfl
  cnt := rfl
  store _ := rfl
  vol := rfl
  bal := rfl
  tone := rfl
  fill := rfl
  modeMir := rfl
  busSpd := rfl
  rdyPull := rfl
  ready := rfl
  degraded := rfl
  hsFail := rfl
  pulse := rfl

/-- With no hardware reset coming, the last line of a command just taken sends its response. -/
theorem accept_runPrim_answer_value (v : Word) (hr : s.resetScript = []) :
    s.accept.runPrim (.answer (.value v)) = s.accept.respond .ok v [] :=
  runPrim_now s.accept (.answer (.value v)) rfl rfl hr

/-! ### RB_RESET (R44, R131) -/

/-- The state with an empty ring whose indices are 0: what the line of RB_RESET writes. -/
def State.ringCleared (s : State) : State := { s with rdi := 0, wri := 0, cnt := 0 }

theorem samePorts_ringCleared_accept : SamePorts s s.ringCleared.accept :=
  ⟨rfl, rfl, rfl, rfl, rfl, rfl, rfl, rfl, rfl⟩

theorem accept_runPrim_clearRing (hr : s.resetScript = []) :
    s.accept.runPrim .clearRing = s.ringCleared.accept :=
  runPrim_now s.accept .clearRing rfl rfl hr

/-- RB_RESET clears the ring and answers `OK`. -/
theorem exec_rbReset_eq (hr : s.resetScript = []) :
    exec .rbReset s = .next (s.ringCleared.accept.respond .ok 0 []) := by
  have hrun : s.accept.runPrims [.clearRing, .answer (.value 0)] = s.ringCleared.accept.respond .ok 0 [] := by
    rw [runPrims_cons, accept_runPrim_clearRing s hr, runPrims_cons, runPrims_nil,
      accept_runPrim_answer_value s.ringCleared 0 hr]
  exact congrArg Host.Outcome.next hrun

/-! ### The obligations -/

/-- Settles O1: each clause is the value that `State.reset` gives the element (R43). -/
theorem resetHoldsTheSpecValues : Obligations.ResetHoldsTheSpecValues :=
  ⟨rfl, rfl, rfl, rfl, rfl, rfl, rfl, rfl, rfl, rfl, rfl, rfl, rfl, rfl, rfl⟩

/-- Settles O7, by the condition under which each select line is asserted. -/
theorem pinsFollowTheBusMode : Obligations.PinsFollowTheBusMode := fun s =>
  ⟨selCtl_eq_true_iff s, selDat_eq_true_iff s, rfl, not_selCtl_and_selDat s⟩

/-- Settles O23: RB_RESET is an answer sent at once from the cleared ring, which is empty, and full only without any chunk. -/
theorem rbResetEmptiesTheRing : Obligations.RbResetEmptiesTheRing := by
  intro s hr
  refine ⟨_, exec_rbReset_eq s hr, sameRegisters_accept_respond s.ringCleared .ok 0 [], rfl,
    (samePorts_ringCleared_accept s).ended_respond .ok 0 [], rfl, fun hcap => ?_⟩
  have hne : ¬ 0 = s.cfg.capacity := by omega
  exact decide_eq_false hne

/-- Settles O56, bit by bit from R40's list of flags. -/
theorem statusBitsAreTheFlags : Obligations.StatusBitsAreTheFlags := by
  intro s
  refine ⟨status_getLsbD s 0, status_getLsbD s 1, status_getLsbD s 2, status_getLsbD s 3, ?_, ?_, ?_, fun k hk => ?_⟩
  · rw [status_getLsbD s 4]
    exact BusSpeed.bit_eq_true_iff s.busSpd
  · rw [status_getLsbD s 5]
    exact full_eq_true_iff s
  · rw [status_getLsbD s 6]
    exact empty_eq_true_iff s
  · rw [status_getLsbD s k, List.getElem?_eq_none hk]
    rfl

end Sys2Proof.Machine
end

section
/-!
PROOFS. The ring as a first-in, first-out queue (40_ringbuffer.md R136, R138, R141, R142): what RB_WRITE and RB_READ leave, what
that is on the queue the ring stands for, and the induction over a sequence of them.
-/

namespace Sys2Proof.Machine

variable (s : State) (chunk : List Byte)

/-! ### The registers of the ring -/

/-- The part of `State.Inv` that the ring commands rely on (R21 to R24), with no hardware reset coming. -/
structure RingReady (s : State) : Prop where
  rdi : s.rdi < s.cfg.capacity
  cnt : s.cnt ≤ s.cfg.capacity
  wri : s.wri = (s.rdi + s.cnt) % s.cfg.capacity
  resetScript : s.resetScript = []

theorem ringReady_of_inv {s : State} (hi : s.Inv) (hr : s.resetScript = []) : RingReady s :=
  ⟨hi.rdi, hi.cnt, hi.wri, hr⟩

theorem RingReady.capacity_pos {s : State} (h : RingReady s) : 0 < s.cfg.capacity := Nat.zero_lt_of_lt h.rdi

theorem RingReady.wri_lt {s : State} (h : RingReady s) : s.wri < s.cfg.capacity := by
  rw [h.wri]
  exact Nat.mod_lt _ h.capacity_pos

theorem nextIndex_lt {c : Cfg} (i : Nat) (h : 0 < c.capacity) : nextIndex c i < c.capacity := Nat.mod_lt _ h

/-- Counting on from the index after `i` is counting on from `i`, one further. -/
theorem nextIndex_add_mod (c : Cfg) (i k : Nat) : (nextIndex c i + k) % c.capacity = (i + (k + 1)) % c.capacity := by
  rw [nextIndex, Nat.mod_add_mod, Nat.add_assoc, Nat.add_comm 1 k]

/-! ### What the two commands leave -/

/-- The state with one chunk more at the write index: what the lines of RB_WRITE do before the answer. -/
def State.chunkWritten (s : State) (chunk : List Byte) : State :=
  { s with
    store := Memory.writeBytes s.store (chunkAddr s.wri) chunk, wri := nextIndex s.cfg s.wri, cnt := s.cnt + 1
    trace := .storeWrite (chunkAddr s.wri) chunk :: s.trace }

/-- The state with the chunk at the read index taken: what the lines of RB_READ do before the answer. -/
def State.chunkTaken (s : State) : State :=
  { s with
    rdi := nextIndex s.cfg s.rdi, cnt := s.cnt - 1, seq := { s.seq with chunk := s.chunkAt s.rdi }
    trace := .storeRead (chunkAddr s.rdi) (s.chunkAt s.rdi) :: s.trace }

@[simp] theorem chunkWritten_cfg : (s.chunkWritten chunk).cfg = s.cfg := rfl
@[simp] theorem chunkWritten_rdi : (s.chunkWritten chunk).rdi = s.rdi := rfl
@[simp] theorem chunkWritten_wri : (s.chunkWritten chunk).wri = nextIndex s.cfg s.wri := rfl
@[simp] theorem chunkWritten_cnt : (s.chunkWritten chunk).cnt = s.cnt + 1 := rfl
@[simp] theorem chunkWritten_store :
    (s.chunkWritten chunk).store = Memory.writeBytes s.store (chunkAddr s.wri) chunk := rfl
@[simp] theorem chunkWritten_resets : (s.chunkWritten chunk).resets = s.resets := rfl
@[simp] theorem chunkWritten_resetScript : (s.chunkWritten chunk).resetScript = s.resetScript := rfl

@[simp] theorem chunkTaken_cfg : s.chunkTaken.cfg = s.cfg := rfl
@[simp] theorem chunkTaken_rdi : s.chunkTaken.rdi = nextIndex s.cfg s.rdi := rfl
@[simp] theorem chunkTaken_wri : s.chunkTaken.wri = s.wri := rfl
@[simp] theorem chunkTaken_cnt : s.chunkTaken.cnt = s.cnt - 1 := rfl
@[simp] theorem chunkTaken_chunkAt (i : Nat) : s.chunkTaken.chunkAt i = s.chunkAt i := rfl
@[simp] theorem chunkTaken_resetScript : s.chunkTaken.resetScript = s.resetScript := rfl

/-- RB_WRITE on a full ring raises `BufferFull`. -/
theorem exec_rbWrite_full (hr : s.resetScript = []) (hfull : s.cnt = s.cfg.capacity) :
    exec (.rbWrite chunk) s = .next (s.accept.raise .bufferFull 0) := by
  have hrun : s.accept.runPrim (.raise .bufferFull 0) = s.accept.raise .bufferFull 0 :=
    runPrim_now s.accept (.raise .bufferFull 0) rfl rfl hr
  rw [← hrun]
  exact if_pos hfull

/-- RB_WRITE on a ring that is not full writes the chunk and answers `OK`. -/
theorem exec_rbWrite_stored (hr : s.resetScript = []) (hfull : s.cnt ≠ s.cfg.capacity) (hwri : s.wri < s.cfg.capacity) :
    exec (.rbWrite chunk) s = .next ((s.chunkWritten chunk).accept.respond .ok 0 []) := by
  have hrun : s.accept.runPrims [.storeChunk chunk, .advanceWrite, .answer (.value 0)] =
      (s.chunkWritten chunk).accept.respond .ok 0 [] := by
    rw [runPrims_cons, runPrim_now s.accept (.storeChunk chunk) rfl rfl hr, runPrims_cons,
      runPrim_now (Prim.run (.storeChunk chunk) s.accept) .advanceWrite rfl rfl hr]
    exact accept_runPrim_answer_value (s.chunkWritten chunk) 0 hr
  rw [← hrun]
  exact (if_neg hfull).trans (if_neg (Nat.not_le.mpr hwri))

/-- RB_READ on an empty ring raises `BufferEmpty`. -/
theorem exec_rbRead_empty (hr : s.resetScript = []) (hempty : s.cnt = 0) :
    exec .rbRead s = .next (s.accept.raise .bufferEmpty 0) := by
  have hrun : s.accept.runPrim (.raise .bufferEmpty 0) = s.accept.raise .bufferEmpty 0 :=
    runPrim_now s.accept (.raise .bufferEmpty 0) rfl rfl hr
  rw [← hrun]
  exact if_pos hempty

/-- RB_READ on a ring that is not empty takes the chunk at the read index and answers `OK` with it. -/
theorem exec_rbRead_taken (hr : s.resetScript = []) (hempty : s.cnt ≠ 0) (hrdi : s.rdi < s.cfg.capacity) :
    exec .rbRead s = .next (s.chunkTaken.accept.respond .ok 0 (s.chunkAt s.rdi)) := by
  have hrun : s.accept.runPrims [.loadChunk, .advanceRead, .answer .chunk] =
      s.chunkTaken.accept.respond .ok 0 (s.chunkAt s.rdi) := by
    rw [runPrims_cons, runPrim_now s.accept .loadChunk rfl rfl hr, runPrims_cons,
      runPrim_now (Prim.run .loadChunk s.accept) .advanceRead rfl rfl hr]
    exact runPrim_now s.chunkTaken.accept (.answer .chunk) rfl rfl hr
  rw [← hrun]
  exact (if_neg hempty).trans (if_neg (Nat.not_le.mpr hrdi))

/-! ### The store after a write -/

theorem storeByte_eq_getD (a : Nat) : s.storeByte a = (Memory.read s.store a).getD (Config.storeDraw s.resets a) := by
  unfold State.storeByte
  cases Memory.read s.store a <;> rfl

theorem storeByte_chunkWritten_outside (a : Nat) (h : a < s.wri * 32 ∨ s.wri * 32 + chunk.length ≤ a) :
    (s.chunkWritten chunk).storeByte a = s.storeByte a := by
  rw [storeByte_eq_getD, storeByte_eq_getD, chunkWritten_store, chunkWritten_resets,
    Memory.read_writeBytes_outside s.store (chunkAddr s.wri) a chunk h]

theorem storeByte_chunkWritten_inside (j : Nat) (h : j < chunk.length) :
    (s.chunkWritten chunk).storeByte (s.wri * 32 + j) = chunk[j] := by
  have hread : Memory.read (s.chunkWritten chunk).store (s.wri * 32 + j) = chunk[j]? :=
    Memory.read_writeBytes_inside s.store (chunkAddr s.wri) j chunk h
  rw [storeByte_eq_getD, hread, List.getElem?_eq_getElem h, Option.getD_some]

/-- The chunk just written reads back. -/
theorem chunkAt_chunkWritten_same (hlen : chunk.length = 32) : (s.chunkWritten chunk).chunkAt s.wri = chunk := by
  refine List.ext_getElem (by simp [State.chunkAt, hlen]) fun j _ hj => ?_
  simp only [State.chunkAt, State.memRead, List.getElem_map, List.getElem_range]
  exact storeByte_chunkWritten_inside s chunk j hj

/-- Every other chunk stays. -/
theorem chunkAt_chunkWritten_other (hlen : chunk.length = 32) {i : Nat} (hi : i ≠ s.wri) :
    (s.chunkWritten chunk).chunkAt i = s.chunkAt i := by
  refine List.map_congr_left fun j hj => storeByte_chunkWritten_outside s chunk _ ?_
  have hj32 : j < 32 := List.mem_range.mp hj
  omega

/-! ### The queue -/

@[simp] theorem queue_accept : s.accept.queue = s.queue := rfl

@[simp] theorem queue_respond (st : Status) (v : Word) (p : List Byte) : (s.respond st v p).queue = s.queue := rfl

@[simp] theorem queue_raise (st : Status) (v : Word) : (s.raise st v).queue = s.queue := by
  unfold State.raise
  split <;> rfl

/-- While the ring is not full, the write index is none of those that the queue occupies. -/
theorem RingReady.slot_ne_wri {s : State} (h : RingReady s) (hfull : s.cnt ≠ s.cfg.capacity) {k : Nat} (hk : k < s.cnt) :
    (s.rdi + k) % s.cfg.capacity ≠ s.wri := by
  have hcnt := h.cnt
  intro heq
  have hmod : k ≡ s.cnt [MOD s.cfg.capacity] := Nat.ModEq.add_left_cancel' s.rdi (heq.trans h.wri)
  have hkcnt : k = s.cnt := hmod.eq_of_lt_of_lt (by omega) (by omega)
  omega

/-- R142: writing a chunk appends it to the queue. -/
theorem RingReady.queue_chunkWritten {s : State} (h : RingReady s) (hfull : s.cnt ≠ s.cfg.capacity) {chunk : List Byte}
    (hlen : chunk.length = 32) : (s.chunkWritten chunk).queue = s.queue ++ [chunk] := by
  have hold : ∀ k ∈ List.range s.cnt, (s.chunkWritten chunk).chunkAt ((s.rdi + k) % s.cfg.capacity) =
      s.chunkAt ((s.rdi + k) % s.cfg.capacity) := fun k hk =>
    chunkAt_chunkWritten_other s chunk hlen (h.slot_ne_wri hfull (List.mem_range.mp hk))
  simp only [State.queue, chunkWritten_cnt, chunkWritten_rdi, chunkWritten_cfg, List.range_succ, List.map_append,
    List.map_cons, List.map_nil, List.map_congr_left hold, ← h.wri, chunkAt_chunkWritten_same s chunk hlen]

/-- R142: the queue's first chunk is the one at the read index, and taking it leaves the rest. -/
theorem RingReady.queue_eq_cons {s : State} (h : RingReady s) (hempty : s.cnt ≠ 0) :
    s.queue = s.chunkAt s.rdi :: s.chunkTaken.queue := by
  obtain ⟨n, hn⟩ := Nat.exists_eq_succ_of_ne_zero hempty
  simp only [State.queue, hn, List.range_succ_eq_map, List.map_cons, List.map_map, Nat.add_zero,
    Nat.mod_eq_of_lt h.rdi, chunkTaken_cnt, chunkTaken_rdi, chunkTaken_cfg, chunkTaken_chunkAt, nextIndex_add_mod,
    Nat.succ_sub_one]
  rfl

/-! ### The ring stays ready -/

theorem RingReady.accept_respond {s : State} (h : RingReady s) (st : Status) (v : Word) (p : List Byte) :
    RingReady (s.accept.respond st v p) :=
  ⟨h.rdi, h.cnt, h.wri, h.resetScript⟩

theorem RingReady.accept_raise {s : State} (h : RingReady s) (st : Status) (v : Word) :
    RingReady (s.accept.raise st v) where
  rdi := by simpa using h.rdi
  cnt := by simpa using h.cnt
  wri := by simpa using h.wri
  resetScript := by simpa using h.resetScript

theorem RingReady.chunkWritten {s : State} (h : RingReady s) (hfull : s.cnt ≠ s.cfg.capacity) (chunk : List Byte) :
    RingReady (s.chunkWritten chunk) where
  rdi := h.rdi
  cnt := Nat.lt_of_le_of_ne h.cnt hfull
  wri := by
    rw [chunkWritten_wri, h.wri, nextIndex, Nat.mod_add_mod]
    rfl
  resetScript := h.resetScript

theorem RingReady.chunkTaken {s : State} (h : RingReady s) (hempty : s.cnt ≠ 0) : RingReady s.chunkTaken where
  rdi := nextIndex_lt s.rdi h.capacity_pos
  cnt := (Nat.sub_le s.cnt 1).trans h.cnt
  wri := by
    rw [chunkTaken_wri, chunkTaken_rdi, chunkTaken_cnt, chunkTaken_cfg, nextIndex_add_mod,
      Nat.sub_one_add_one hempty, h.wri]
  resetScript := h.resetScript

/-! ### Sequences of ring commands -/

theorem head?_raise_responses (st : Status) (v : Word) : (s.raise st v).responses.head? = some ⟨st, v, []⟩ := by
  rw [raise_responses, List.head?_cons]

variable {s} {t : State} {cs : List RingCommand} {r : RingRun} {chunk} {v : Word} {p : List Byte}

theorem runRing_cons_write (hexec : exec (.rbWrite chunk) s = .next t) (hhead : t.responses.head? = some ⟨.ok, v, p⟩)
    (hrun : runRing cs t = some r) :
    runRing (.write chunk :: cs) s = some { r with writes := chunk :: r.writes } := by
  simp only [runRing, RingCommand.instr, hexec, hhead, hrun]

theorem runRing_cons_read (hexec : exec .rbRead s = .next t) (hhead : t.responses.head? = some ⟨.ok, v, p⟩)
    (hrun : runRing cs t = some r) : runRing (.read :: cs) s = some { r with reads := p :: r.reads } := by
  simp only [runRing, RingCommand.instr, hexec, hhead, hrun]

/-- A command that does not answer `OK` counts neither as a read nor as a write. -/
theorem runRing_cons_not_ok {c : RingCommand} {st : Status} (hexec : exec c.instr s = .next t)
    (hhead : t.responses.head? = some ⟨st, v, p⟩) (hst : st ≠ .ok) (hrun : runRing cs t = some r) :
    runRing (c :: cs) s = some r := by
  simp only [runRing, hexec, hhead, hrun]
  split
  · next _ heq => exact absurd (congrArg Response.status (Option.some.inj heq)) hst
  · next _ heq => exact absurd (congrArg Response.status (Option.some.inj heq)) hst
  · rfl

/-- R141 of one run: what the reads took, then what is left, is what was there, then what the writes added; and the count stays
within the capacity. -/
def FirstInFirstOut (s : State) (r : RingRun) : Prop :=
  r.reads ++ r.state.queue = s.queue ++ r.writes ∧ r.state.cnt ≤ s.cfg.capacity

theorem FirstInFirstOut.after_write (h : FirstInFirstOut t r) (hcfg : t.cfg = s.cfg) (hq : t.queue = s.queue ++ [chunk]) :
    FirstInFirstOut s { r with writes := chunk :: r.writes } := by
  obtain ⟨hfifo, hcnt⟩ := h
  refine ⟨?_, hcfg ▸ hcnt⟩
  rw [hfifo, hq, List.append_assoc, List.singleton_append]

theorem FirstInFirstOut.after_read (h : FirstInFirstOut t r) (hcfg : t.cfg = s.cfg) (hq : s.queue = p :: t.queue) :
    FirstInFirstOut s { r with reads := p :: r.reads } := by
  obtain ⟨hfifo, hcnt⟩ := h
  refine ⟨?_, hcfg ▸ hcnt⟩
  rw [hq, List.cons_append, List.cons_append, hfifo]

theorem FirstInFirstOut.after_same_queue (h : FirstInFirstOut t r) (hcfg : t.cfg = s.cfg) (hq : t.queue = s.queue) :
    FirstInFirstOut s r := by
  obtain ⟨hfifo, hcnt⟩ := h
  exact ⟨hq ▸ hfifo, hcfg ▸ hcnt⟩

/-- R141 from every state whose ring is ready, by induction on the commands: each one appends to the queue, takes its first
chunk, or leaves it as it is. -/
theorem runRing_firstInFirstOut (cs : List RingCommand) (s : State) (h : RingReady s)
    (hlen : ∀ chunk, RingCommand.write chunk ∈ cs → chunk.length = 32) :
    ∃ r, runRing cs s = some r ∧ FirstInFirstOut s r := by
  induction cs generalizing s with
  | nil => exact ⟨⟨[], [], s⟩, rfl, by simp, h.cnt⟩
  | cons c cs ih =>
    replace ih := fun t ht => ih t ht fun chunk hmem => hlen chunk (List.mem_cons_of_mem c hmem)
    cases c with
    | write chunk =>
      by_cases hfull : s.cnt = s.cfg.capacity
      · obtain ⟨r, hrun, hfifo⟩ := ih _ (h.accept_raise .bufferFull 0)
        exact ⟨r, runRing_cons_not_ok (exec_rbWrite_full s chunk h.resetScript hfull)
            (head?_raise_responses _ _ _) (by decide) hrun,
          hfifo.after_same_queue (by simp) (by simp)⟩
      · obtain ⟨r, hrun, hfifo⟩ := ih _ ((h.chunkWritten hfull chunk).accept_respond .ok 0 [])
        exact ⟨_, runRing_cons_write (exec_rbWrite_stored s chunk h.resetScript hfull h.wri_lt) rfl hrun,
          hfifo.after_write rfl (h.queue_chunkWritten hfull (hlen chunk List.mem_cons_self))⟩
    | read =>
      by_cases hempty : s.cnt = 0
      · obtain ⟨r, hrun, hfifo⟩ := ih _ (h.accept_raise .bufferEmpty 0)
        exact ⟨r, runRing_cons_not_ok (exec_rbRead_empty s h.resetScript hempty)
            (head?_raise_responses _ _ _) (by decide) hrun,
          hfifo.after_same_queue (by simp) (by simp)⟩
      · obtain ⟨r, hrun, hfifo⟩ := ih _ ((h.chunkTaken hempty).accept_respond .ok 0 (s.chunkAt s.rdi))
        exact ⟨_, runRing_cons_read (exec_rbRead_taken s h.resetScript hempty h.rdi) rfl hrun,
          hfifo.after_read rfl (h.queue_eq_cons hempty)⟩

/-- Settles O29, from the part of the invariant that every ring command keeps. -/
theorem ringIsFirstInFirstOut : Obligations.RingIsFirstInFirstOut := by
  intro cs s hinv _ hr hlen
  obtain ⟨r, hrun, hfifo, hcnt⟩ := runRing_firstInFirstOut cs s (ringReady_of_inv hinv hr) hlen
  exact ⟨r, hrun, hfifo, hcnt⟩

end Sys2Proof.Machine
end

section
/-!
PROOFS. The bus commands against a ready device (41_hardware_bus.md, 42_register_protocol.md): what a sequence of register frames
leaves of the core, frame after frame, and what a command that answers after them has done; with it the echoed register (R189).
-/

namespace Sys2Proof.Machine

variable (s : State) (evs : List Event) (p x : Nat) (q : Sequencer)

/-! ### The state after part of a command on the bus -/

/-- The state between two transactions of a command: `p` answers to polls and `x` bytes of the device are used up, the events
`evs` have been shown, and the sequencing state is `q`. -/
def State.afterBus (s : State) (evs : List Event) (p x : Nat) (q : Sequencer) : State :=
  { s with
    busMode := .idle, seq := q, pollScript := s.pollScript.drop p, polled := s.polled + p
    rxScript := s.rxScript.drop x, clocked := s.clocked + x, trace := evs.reverse ++ s.trace }

@[simp] theorem afterBus_cfg : (s.afterBus evs p x q).cfg = s.cfg := rfl
@[simp] theorem afterBus_busMode : (s.afterBus evs p x q).busMode = .idle := rfl
@[simp] theorem afterBus_busy : (s.afterBus evs p x q).busy = s.busy := rfl
@[simp] theorem afterBus_todo : (s.afterBus evs p x q).todo = s.todo := rfl
@[simp] theorem afterBus_seq : (s.afterBus evs p x q).seq = q := rfl
@[simp] theorem afterBus_resetScript : (s.afterBus evs p x q).resetScript = s.resetScript := rfl
@[simp] theorem afterBus_responses : (s.afterBus evs p x q).responses = s.responses := rfl

@[simp] theorem afterBus_pollAt (k : Nat) : (s.afterBus evs p x q).pollAt k = s.pollAt (p + k) := by
  simp [State.pollAt, State.afterBus, Nat.add_assoc]

@[simp] theorem afterBus_rxAt (k : Nat) : (s.afterBus evs p x q).rxAt k = s.rxAt (x + k) := by
  simp [State.rxAt, State.afterBus, Nat.add_assoc]

/-- Two parts of a command, one after the other, are one. -/
@[simp] theorem afterBus_afterBus (evs' : List Event) (p' x' : Nat) (q' : Sequencer) :
    (s.afterBus evs p x q).afterBus evs' p' x' q' = s.afterBus (evs ++ evs') (p + p') (x + x') q' := by
  simp [State.afterBus, Nat.add_assoc]

@[simp] theorem afterBus_readAt (k : Nat) : readAt (s.afterBus evs p x q) k = readAt s (x + k) := by
  simp [readAt, Nat.add_assoc]

@[simp] theorem afterBus_writeEvents (k : Nat) (addr : Byte) (v : Half) :
    writeEvents (s.afterBus evs p x q) k addr v = writeEvents s (x + k) addr v := by
  simp [writeEvents, Nat.add_assoc]

@[simp] theorem afterBus_readEvents (k : Nat) (addr : Byte) :
    readEvents (s.afterBus evs p x q) k addr = readEvents s (x + k) addr := by
  simp [readEvents, Nat.add_assoc]

/-- A device that is ready for `p + n` polls is, after `p` of them, ready for `n`. -/
theorem DeviceReady.afterBus {s : State} {p n : Nat} (h : DeviceReady s (p + n)) (evs : List Event) (x : Nat)
    (q : Sequencer) : DeviceReady (s.afterBus evs p x q) n := by
  obtain ⟨hr, hp⟩ := h
  refine ⟨hr, fun k hk => ?_⟩
  rw [afterBus_pollAt]
  exact hp (p + k) (by omega)

/-- Taking a command uses up no answer of the device. -/
theorem DeviceReady.accept {s : State} {n : Nat} (h : DeviceReady s n) : DeviceReady s.accept n := h

/-- A response leaves the device as it is. -/
theorem DeviceReady.respond {s : State} {n : Nat} (h : DeviceReady s n) (st : Status) (v : Word) (payload : List Byte) :
    DeviceReady (s.respond st v payload) n := h

/-! ### The two register frames (R180, R182), first and after other transactions -/

/-- The sequencing state after a frame: the count of its last wait is 0. -/
def Sequencer.waited (q : Sequencer) : Sequencer := { q with polls := 0 }

/-- The sequencing state after a read frame that received `v`. -/
def Sequencer.received (q : Sequencer) (v : Half) : Sequencer := { q with polls := 0, readValue := v }

theorem runPrims_regWriteLines (addr : Byte) (v : Half) (hb : s.busy = true) (ht : s.todo = [])
    (hd : DeviceReady s 2) :
    s.runPrims (regWriteLines addr v) = s.afterBus (writeEvents s 0 addr v) 2 4 s.seq.waited :=
  regWrite_ready s addr v hb ht hd

theorem runPrims_regReadLines (addr : Byte) (hb : s.busy = true) (ht : s.todo = []) (hd : DeviceReady s 2) :
    s.runPrims (regReadLines addr) = s.afterBus (readEvents s 0 addr) 2 4 (s.seq.received (readAt s 0)) :=
  regRead_ready s addr hb ht hd

theorem afterBus_runPrims_regReadLines (addr : Byte) (hb : s.busy = true) (ht : s.todo = [])
    (hd : DeviceReady s (p + 2)) :
    (s.afterBus evs p x q).runPrims (regReadLines addr) =
      s.afterBus (evs ++ readEvents s x addr) (p + 2) (x + 4) (q.received (readAt s x)) := by
  rw [runPrims_regReadLines (s.afterBus evs p x q) addr hb ht (hd.afterBus evs x q), afterBus_afterBus,
    afterBus_readEvents, afterBus_readAt]
  rfl

/-! ### The answer after the last transaction -/

/-- With no hardware reset coming, the line after the last transaction sends the answer. -/
theorem accept_afterBus_answer (a : Answer) (hr : s.resetScript = []) :
    (s.accept.afterBus evs p x q).runPrim (.answer a) = (s.accept.afterBus evs p x q).answer a :=
  runPrim_now (s.accept.afterBus evs p x q) (.answer a) rfl rfl hr

/-- A command that answers after its last transaction has ended with that response and the events of its transactions. -/
theorem ended_afterBus_respond (st : Status) (v : Word) (payload : List Byte) :
    Ended s ((s.accept.afterBus evs p x q).respond st v payload) ⟨st, v, payload⟩ evs p x where
  busy := rfl
  todo := rfl
  responses := rfl
  events := by simp [State.events, State.afterBus]
  inbox := rfl
  resetScript := rfl
  resets := rfl
  pollScript := rfl
  polled := rfl
  rxScript := rfl
  clocked := rfl

/-- Transactions and the answer write no register and no byte of the store. -/
theorem sameRegisters_afterBus_respond (st : Status) (v : Word) (payload : List Byte) :
    SameRegisters s ((s.accept.afterBus evs p x q).respond st v payload) where
  cfg := rfl
  rdi := rfl
  wri := rfl
  cnt := rfl
  store _ := rfl
  vol := rfl
  bal := rfl
  tone := rfl
  fill := rfl
  modeMir := rfl
  busSpd := rfl
  rdyPull := rfl
  ready := rfl
  degraded := rfl
  hsFail := rfl
  pulse := rfl

/-! ### REG_WRITE and REG_READ (R183, R184, R189) -/

/-- REG_WRITE sends its frame and answers 0. -/
theorem exec_regWrite_eq (addr : Byte) (value : Half) (hd : DeviceReady s 2) :
    exec (.regWrite addr value) s =
      .next ((s.accept.afterBus (writeEvents s 0 addr value) 2 4 s.seq.waited).respond .ok 0 []) := by
  have hrun : s.accept.runPrims (regWriteLines addr value ++ [.answer (.value 0)]) =
      (s.accept.afterBus (writeEvents s 0 addr value) 2 4 s.seq.waited).respond .ok 0 [] := by
    rw [runPrims_append, runPrims_regWriteLines s.accept addr value rfl rfl hd.accept]
    exact accept_afterBus_answer s _ 2 4 _ (.value 0) hd.1
  exact congrArg Host.Outcome.next hrun

/-- REG_READ sends its frame and answers the 16 bits received. -/
theorem exec_regRead_eq (addr : Byte) (hd : DeviceReady s 2) :
    exec (.regRead addr) s =
      .next ((s.accept.afterBus (readEvents s 0 addr) 2 4 (s.seq.received (readAt s 0))).respond
        .ok (zextHalf (readAt s 0)) []) := by
  have hrun : s.accept.runPrims (regReadLines addr ++ [.answer .readValue]) =
      (s.accept.afterBus (readEvents s 0 addr) 2 4 (s.seq.received (readAt s 0))).respond
        .ok (zextHalf (readAt s 0)) [] := by
    rw [runPrims_append, runPrims_regReadLines s.accept addr rfl rfl hd.accept]
    exact accept_afterBus_answer s _ 2 4 _ .readValue hd.1
  exact congrArg Host.Outcome.next hrun

/-- Settles O34: the read frame's data bytes are the transfers 6 and 7 counted from before the write, and what the device sends
in them are the two bytes of the value. -/
theorem echoedRegisterReadsBack : Obligations.EchoedRegisterReadsBack := by
  intro s addr value hd hhi hlo
  have hwritten := (DeviceReady.afterBus (p := 2) (n := 2) hd.accept (writeEvents s 0 addr value) 4
    s.seq.waited).respond .ok 0 []
  refine ⟨_, _, exec_regWrite_eq s addr value (hd.mono (by omega)), exec_regRead_eq _ addr hwritten, ?_⟩
  have hread : readAt (s.accept.afterBus (writeEvents s 0 addr value) 2 4 s.seq.waited) 0 = value := by
    rw [afterBus_readAt, readAt, accept_rxAt, accept_rxAt, hhi, hlo, hiByte_append_loByte]
  exact congrArg (fun v : Half => (⟨.ok, zextHalf v, []⟩ : Response) :: ⟨.ok, 0, []⟩ :: s.responses) hread

end Sys2Proof.Machine
end

section
/-!
PROOFS. The self-test (42_register_protocol.md R190, R191, R193): the arithmetic of its samples and mismatches, what one sample
leaves, the induction over the sweep, and SELFTEST's answer.
-/

namespace Sys2Proof.Machine

variable (s : State)

/-! ### Samples and mismatches in terms of what the device sends -/

/-- A value below `SWEEP_END` that is a multiple of the step belongs to a sample, and only such a value (R191). -/
theorem mul_lt_sweepEnd_iff (c : Cfg) {delta : Nat} (hδ : 0 < delta) (m : Nat) :
    m * delta < c.sweepEnd ↔ m < sampleCount c delta := by
  rw [sampleCount, Nat.lt_iff_add_one_le, Nat.lt_iff_add_one_le, Nat.le_div_iff_mul_le hδ, Nat.add_one_mul]
  omega

theorem sampleCount_le_sweepEnd (c : Cfg) {delta : Nat} (hδ : 0 < delta) : sampleCount c delta ≤ c.sweepEnd := by
  by_contra hlt
  have hval := (mul_lt_sweepEnd_iff c hδ c.sweepEnd).mpr (by omega)
  exact absurd hval (Nat.not_lt.mpr (Nat.le_mul_of_pos_right _ hδ))

theorem mismatches_succ (k delta m : Nat) :
    mismatches s k delta (m + 1) = mismatches s k delta m + if sampleOK s k delta m then 0 else 1 := by
  cases h : sampleOK s k delta m <;> simp [mismatches, List.range_succ, h]

/-- The sample with which 20 mismatches are reached is the 20th that mismatches. -/
theorem mismatches_twentieth (k delta m : Nat) (hfew : mismatches s k delta m < 20)
    (hmany : ¬ mismatches s k delta (m + 1) < 20) :
    mismatches s k delta (m + 1) = 20 ∧ sampleOK s k delta m = false := by
  rw [mismatches_succ] at hmany ⊢
  cases hok : sampleOK s k delta m with
  | true => exact absurd hfew (by simpa [hok] using hmany)
  | false =>
    refine ⟨?_, rfl⟩
    simp only [hok, Bool.false_eq_true, if_false] at hmany ⊢
    omega

/-- No sample mismatched exactly when all of them read back right. -/
theorem mismatches_eq_zero_iff (k delta n : Nat) : mismatches s k delta n = 0 ↔ sweepOK s k delta n = true := by
  simp [mismatches, sweepOK]

/-- The mismatches up to where the sweep ends tell whether all its samples would have read back right. -/
theorem SweepEnds.mismatches_eq_zero_iff {s : State} {k delta n m : Nat} (h : SweepEnds s k delta n m) :
    mismatches s k delta m = 0 ↔ sweepOK s k delta n = true := by
  obtain ⟨hmn, ⟨rfl, _⟩ | ⟨hpos, htwenty, hbad⟩⟩ := h
  · exact Machine.mismatches_eq_zero_iff s k delta m
  · have hne : mismatches s k delta m ≠ 0 := by omega
    refine iff_of_false hne fun hall => ?_
    have hok := List.all_eq_true.mp hall (m - 1) (List.mem_range.mpr (by omega))
    rw [hbad] at hok
    contradiction

/-- The events of a sample with value `v`, its first transfer the `k`-th from `s` on. -/
def sampleEvents (s : State) (k : Nat) (v : Half) : List Event :=
  writeEvents s k s.cfg.regTest v ++ readEvents s (k + 4) s.cfg.regTest ++ readEvents s (k + 8) s.cfg.regTest

theorem sweepEvents_succ (delta m : Nat) :
    sweepEvents s 0 delta (m + 1) = sweepEvents s 0 delta m ++ sampleEvents s (12 * m) (BitVec.ofNat 16 (m * delta)) := by
  simp [sweepEvents, sampleEvents, List.range_succ]

theorem afterBus_sampleEvents (evs : List Event) (p x : Nat) (q : Sequencer) (v : Half) :
    sampleEvents (s.afterBus evs p x q) 0 v = sampleEvents s x v := by
  simp [sampleEvents]

/-! ### One sample -/

/-- The sequencing state after a sample with value `t` that read back `r1` and `r2` (R190). -/
def Sequencer.sampled (q : Sequencer) (t r1 r2 : Half) (delta : Nat) : Sequencer :=
  { q with
    polls := 0, readValue := r2, firstRead := r1, swi := q.swi + delta
    mism := q.mism + if decide (t = r1) && decide (r1 = r2) then 0 else 1 }

/-- The comparison counts the mismatch of the two values read and goes one step on. -/
theorem afterBus_tally (evs : List Event) (p x : Nat) (q : Sequencer) (t r1 r2 : Half) (delta : Nat) :
    (s.afterBus evs p x { q.received r2 with firstRead := r1 }).tally t delta =
      s.afterBus evs p x (q.sampled t r1 r2 delta) := by
  have hcount : (if decide (t ≠ r1) || decide (r1 ≠ r2) then q.mism + 1 else q.mism) =
      q.mism + if decide (t = r1) && decide (r1 = r2) then 0 else 1 := by
    simp only [ne_eq, decide_not]
    cases decide (t = r1) <;> cases decide (r1 = r2) <;> rfl
  unfold Sequencer.sampled
  rw [← hcount]
  rfl

/-- One sample against a ready device: its three frames, then the comparison. -/
theorem runPrims_sampleLines (t : Half) (delta : Nat) (hb : s.busy = true) (ht : s.todo = []) (hd : DeviceReady s 6) :
    s.runPrims (sampleLines s.cfg t delta) =
      s.afterBus (sampleEvents s 0 t) 6 12 (s.seq.sampled t (readAt s 4) (readAt s 8) delta) := by
  have hkeep : ∀ evs p x q, (s.afterBus evs p x q).runPrims [.keepFirst] =
      s.afterBus evs p x { q with firstRead := q.readValue } := fun evs p x q =>
    runPrim_now (s.afterBus evs p x q) .keepFirst hb ht hd.1
  have htally : ∀ evs p x q, (s.afterBus evs p x q).runPrims [.tally t delta] =
      (s.afterBus evs p x q).tally t delta := fun evs p x q =>
    runPrim_now (s.afterBus evs p x q) (.tally t delta) hb ht hd.1
  rw [sampleLines, runPrims_append, runPrims_append, runPrims_append, runPrims_append,
    runPrims_regWriteLines s _ _ hb ht (hd.mono (by omega)),
    afterBus_runPrims_regReadLines s _ _ _ _ _ hb ht (hd.mono (by omega)), hkeep,
    afterBus_runPrims_regReadLines s _ _ _ _ _ hb ht (hd.mono (by omega)), htally]
  exact afterBus_tally s _ _ _ s.seq t (readAt s 4) (readAt s 8) delta

/-! ### The sweep -/

/-- `v` is the state of a self-test that began in `u`, after `m` samples: their events, polls and transfers, the sweep value and
the mismatch count; BEGIN's own variables are as before. -/
structure Swept (u : State) (delta m : Nat) (v : State) : Prop where
  state : v = u.afterBus (sweepEvents u 0 delta m) (6 * m) (12 * m) v.seq
  swi : v.seq.swi = m * delta
  mism : v.seq.mism = mismatches u 0 delta m
  absent : v.seq.absent = u.seq.absent
  lowOK : v.seq.lowOK = u.seq.lowOK

variable {u v : State} {delta m : Nat}

theorem Swept.busy (h : Swept u delta m v) (hb : u.busy = true) : v.busy = true := h.state ▸ hb
theorem Swept.todo (h : Swept u delta m v) (ht : u.todo = []) : v.todo = [] := h.state ▸ ht
theorem Swept.cfg (h : Swept u delta m v) : v.cfg = u.cfg := by rw [h.state, afterBus_cfg]
theorem Swept.deviceReady (h : Swept u delta m v) {n : Nat} (hd : DeviceReady u (6 * m + n)) : DeviceReady v n :=
  h.state ▸ hd.afterBus _ _ _

/-- What the command sends after the samples comes after their events. -/
theorem Swept.afterBus (h : Swept u delta m v) (evs : List Event) (p x : Nat) (q : Sequencer) :
    v.afterBus evs p x q = u.afterBus (sweepEvents u 0 delta m ++ evs) (6 * m + p) (12 * m + x) q :=
  (congrArg (State.afterBus · evs p x q) h.state).trans (afterBus_afterBus u _ _ _ _ evs p x q)

/-- One sample more. -/
theorem Swept.succ (h : Swept u delta m v) (hb : u.busy = true) (ht : u.todo = [])
    (hd : DeviceReady u (6 * (m + 1))) :
    Swept u delta (m + 1) (v.runPrims (sampleLines v.cfg (BitVec.ofNat 16 v.seq.swi) delta)) := by
  rw [runPrims_sampleLines v _ delta (h.busy hb) (h.todo ht) (h.deviceReady hd)]
  have hread : ∀ k, readAt v k = readAt u (12 * m + k) := fun k => by rw [h.state, afterBus_readAt]
  have hevents : sampleEvents v 0 (BitVec.ofNat 16 v.seq.swi) =
      sampleEvents u (12 * m) (BitVec.ofNat 16 (m * delta)) := by
    rw [h.swi, h.state, afterBus_sampleEvents]
  constructor
  case state => rw [h.afterBus, hevents, sweepEvents_succ]; rfl
  case swi => simp [Sequencer.sampled, h.swi, Nat.add_one_mul]
  case mism => simp [Sequencer.sampled, h.swi, h.mism, hread, mismatches_succ, sampleOK]
  case absent => exact h.absent
  case lowOK => exact h.lowOK

/-- The loop goes on where a sample is left and fewer than 20 have mismatched. -/
theorem Swept.goes_on_iff (h : Swept u delta m v) (hδ : 0 < delta) :
    v.seq.swi < v.cfg.sweepEnd ∧ v.seq.mism < Config.mismatchLimit ↔
      m < sampleCount u.cfg delta ∧ mismatches u 0 delta m < 20 := by
  rw [h.swi, h.cfg, h.mism, mul_lt_sweepEnd_iff u.cfg hδ]
  rfl

/-- A loop that does not go on leaves the state as it is, however many iterations its bound still allows. -/
theorem sweepLoop_of_stop (delta n : Nat) (v : State)
    (hstop : ¬ (v.seq.swi < v.cfg.sweepEnd ∧ v.seq.mism < Config.mismatchLimit)) : sweepLoop delta n v = v := by
  cases n with
  | zero => rfl
  | succ n => exact if_neg hstop

/-- A loop that goes on against a ready device runs one sample and the rest of the loop. -/
theorem sweepLoop_succ_of_goes_on (n : Nat) (hb : v.busy = true) (ht : v.todo = []) (hd : DeviceReady v 6)
    (hgo : v.seq.swi < v.cfg.sweepEnd ∧ v.seq.mism < Config.mismatchLimit) :
    sweepLoop delta (n + 1) v =
      sweepLoop delta n (v.runPrims (sampleLines v.cfg (BitVec.ofNat 16 v.seq.swi) delta)) := by
  rw [sweepLoop, if_pos hgo, runPrims_sampleLines v _ delta hb ht hd]
  exact runAs_now (v.afterBus _ _ _ _) (.sweep n delta) (sweepLoop delta n) hb ht hd.1

/-- The loop against a ready device, by induction on its bound: after `m` samples with fewer than 20 mismatches, it ends where
`SweepEnds` says. -/
theorem Swept.sweepLoop (hb : u.busy = true) (ht : u.todo = []) (hδ : 0 < delta)
    (hd : DeviceReady u (6 * sampleCount u.cfg delta)) (n : Nat) (h : Swept u delta m v)
    (hm : m ≤ sampleCount u.cfg delta) (hn : sampleCount u.cfg delta ≤ m + n) (hfew : mismatches u 0 delta m < 20) :
    ∃ k, SweepEnds u 0 delta (sampleCount u.cfg delta) k ∧ Swept u delta k (sweepLoop delta n v) := by
  induction n generalizing m v with
  | zero => exact ⟨m, ⟨hm, .inl ⟨by omega, hfew⟩⟩, h⟩
  | succ n ih =>
    by_cases hlast : m = sampleCount u.cfg delta
    · have hstop := mt (h.goes_on_iff hδ).mp (by omega)
      exact ⟨m, ⟨hm, .inl ⟨hlast, hfew⟩⟩, (sweepLoop_of_stop delta (n + 1) v hstop).symm ▸ h⟩
    · have hgo := (h.goes_on_iff hδ).mpr ⟨by omega, hfew⟩
      have hnext := h.succ hb ht (hd.mono (by omega))
      rw [sweepLoop_succ_of_goes_on n (h.busy hb) (h.todo ht) (h.deviceReady (hd.mono (by omega))) hgo]
      by_cases hfew' : mismatches u 0 delta (m + 1) < 20
      · exact ih hnext (by omega) (by omega) hfew'
      · obtain ⟨htwenty, hbad⟩ := mismatches_twentieth u 0 delta m hfew hfew'
        have hstop := mt (hnext.goes_on_iff hδ).mp (by omega)
        rw [sweepLoop_of_stop delta n _ hstop]
        exact ⟨m + 1, ⟨by omega, .inr ⟨by omega, htwenty, hbad⟩⟩, hnext⟩

/-- `SelfTest` against a ready device, begun outside every transaction. -/
theorem selfTest_ready (hb : u.busy = true) (ht : u.todo = []) (hi : u.busMode = .idle) (hδ : 0 < delta)
    (hd : DeviceReady u (6 * sampleCount u.cfg delta)) :
    ∃ m, SweepEnds u 0 delta (sampleCount u.cfg delta) m ∧ Swept u delta m (selfTest delta u) := by
  have hinit : u.runPrim .sweepInit = u.afterBus [] 0 0 { u.seq with mism := 0, swi := 0 } := by
    rw [runPrim_now u .sweepInit hb ht hd.1]
    simp [State.afterBus, Prim.run, ← hi]
  have hloop : selfTest delta u = sweepLoop delta u.cfg.sweepEnd (u.runPrim .sweepInit) := by
    rw [selfTest, hinit]
    exact runAs_now (u.afterBus _ _ _ _) _ _ hb ht hd.1
  have hzero : Swept u delta 0 (u.runPrim .sweepInit) := by
    rw [hinit]
    exact ⟨rfl, (Nat.zero_mul delta).symm, rfl, rfl, rfl⟩
  rw [hloop]
  exact hzero.sweepLoop hb ht hδ hd u.cfg.sweepEnd (Nat.zero_le _)
    ((sampleCount_le_sweepEnd u.cfg hδ).trans (Nat.le_add_left _ _)) (Nat.zero_lt_succ 19)

/-! ### SELFTEST (R193) -/

/-- The step of the sweep is what R190 says. -/
theorem sweepDelta_eq (fast : Bool) : sweepDelta fast = if fast then 3 else 300 := rfl

theorem sweepDelta_pos (fast : Bool) : 0 < sweepDelta fast := by cases fast <;> decide

/-- After a sweep to its end the answer of SELFTEST says whether all samples read back right. -/
theorem Swept.answer_selfTest (h : Swept u delta m v) (hends : SweepEnds u 0 delta (sampleCount u.cfg delta) m) :
    v.answer .selfTest =
      (u.afterBus (sweepEvents u 0 delta m) (6 * m) (12 * m) v.seq).respond .ok
        (if sweepOK u 0 delta (sampleCount u.cfg delta) then 1 else 0) [] := by
  have hiff : v.seq.mism = 0 ↔ sweepOK u 0 delta (sampleCount u.cfg delta) = true :=
    h.mism ▸ hends.mismatches_eq_zero_iff
  have hvalue : decide (v.seq.mism = 0) = sweepOK u 0 delta (sampleCount u.cfg delta) := by
    simp only [hiff, Bool.decide_eq_true]
  rw [← hvalue, ← h.state]
  rfl

/-- Settles O35, from the sweep's end and the answer after it. -/
theorem selfTestReportsTheSweep : Obligations.SelfTestReportsTheSweep := by
  intro s fast hidle hd
  rw [← sweepDelta_eq] at hd ⊢
  obtain ⟨m, hends, hswept⟩ := selfTest_ready (u := s.accept) rfl rfl hidle (sweepDelta_pos fast) hd
  have hready : DeviceReady (selfTest (sweepDelta fast) s.accept) 0 :=
    hswept.deviceReady (DeviceReady.mono hd (Nat.mul_le_mul_left 6 hends.1))
  have hrun : (selfTest (sweepDelta fast) s.accept).runPrim (.answer .selfTest) = _ :=
    (runPrim_now _ (.answer .selfTest) (hswept.busy rfl) (hswept.todo rfl) hready.1).trans
      (hswept.answer_selfTest hends)
  exact ⟨_, m, congrArg Host.Outcome.next hrun, hends, sameRegisters_afterBus_respond s _ _ _ _ _ _ _, rfl,
    ended_afterBus_respond s _ _ _ _ _ _ _⟩

end Sys2Proof.Machine
end

section
/-!
PROOFS. LOAD_PATCH (44_patch_loader.md R221 to R225, R227): what the parse loop reads at the front of the words of records and of
words that are no record, what the writes of a record leave, and the induction over the records.
-/

namespace Sys2Proof.Machine

variable (s : State)

/-! ### The words of a record (R105) -/

/-- The register address of a record. -/
def PatchRecord.addr : PatchRecord → Byte
  | .run addr _ _ => addr
  | .copy addr _ => addr

/-- The values that a record writes, in order. -/
def PatchRecord.values : PatchRecord → List Half
  | .run _ n value => List.replicate n.toNat value
  | .copy _ values => values

theorem PatchRecord.writes_eq_map (r : PatchRecord) : r.writes = r.values.map fun v => (r.addr, v) := by
  cases r with
  | run addr n value => exact List.map_replicate.symm
  | copy addr values => rfl

theorem isRun_eq_true_iff (cw : Half) : isRun cw = true ↔ 0x8000 ≤ cw.toNat := by
  simp [isRun, BitVec.msb_eq_decide]

theorem repeatCount_eq_mod (cw : Half) : repeatCount cw = cw.toNat % 2 ^ 15 := by
  simp [repeatCount]

theorem isRun_run (n : BitVec 15) : isRun ((1 : BitVec 1) ++ n) = true := by
  rw [isRun, BitVec.msb_append]
  rfl

theorem repeatCount_run (n : BitVec 15) : repeatCount ((1 : BitVec 1) ++ n) = n.toNat :=
  congrArg BitVec.toNat BitVec.extractLsb'_append_eq_right

theorem not_isRun_copy {n : Nat} (h : n < 2 ^ 15) : ¬ isRun (BitVec.ofNat 16 n) = true := by
  rw [isRun_eq_true_iff, BitVec.toNat_ofNat]
  omega

theorem repeatCount_copy {n : Nat} (h : n < 2 ^ 15) : repeatCount (BitVec.ofNat 16 n) = n := by
  rw [repeatCount_eq_mod, BitVec.toNat_ofNat]
  omega

theorem toNat_addressWord_le (a : Byte) : (a.setWidth 16 : Half).toNat ≤ patchAddrMax := by
  have hlt := a.isLt
  rw [BitVec.toNat_setWidth, patchAddrMax]
  omega

theorem loByte_addressWord (a : Byte) : loByte (a.setWidth 16) = a := by
  apply BitVec.eq_of_toNat_eq
  simpa [loByte] using a.isLt

/-! ### What the parse loop makes of the words (R221 to R223) -/

section
variable {address cw : Half}

theorem recordHead_of_large_address (rest : List Half) (h : patchAddrMax < address.toNat) :
    recordHead (address :: cw :: rest) = .malformed := if_pos h

theorem recordHead_run (value : Half) (rest : List Half) (h : address.toNat ≤ patchAddrMax) (hrun : isRun cw = true) :
    recordHead (address :: cw :: value :: rest) =
      .record (loByte address) (List.replicate (repeatCount cw) value) 3 rest :=
  (if_neg (Nat.not_lt.mpr h)).trans (if_pos hrun)

theorem recordHead_run_without_value (h : address.toNat ≤ patchAddrMax) (hrun : isRun cw = true) :
    recordHead [address, cw] = .malformed :=
  (if_neg (Nat.not_lt.mpr h)).trans (if_pos hrun)

theorem recordHead_copy (rest : List Half) (h : address.toNat ≤ patchAddrMax) (hcopy : ¬ isRun cw = true) :
    recordHead (address :: cw :: rest) =
      if rest.length < repeatCount cw then .malformed
      else .record (loByte address) (rest.take (repeatCount cw)) (2 + repeatCount cw) (rest.drop (repeatCount cw)) :=
  (if_neg (Nat.not_lt.mpr h)).trans (if_neg hcopy)

end

/-- The words of a record parse as that record, whatever follows them. -/
theorem recordHead_words_append (r : PatchRecord) (hr : r.valid = true) (rest : List Half) :
    recordHead (r.words ++ rest) = .record r.addr r.values r.words.length rest := by
  cases r with
  | run addr n value =>
    have hhead := recordHead_run value rest (toNat_addressWord_le addr) (isRun_run n)
    rwa [loByte_addressWord, repeatCount_run] at hhead
  | copy addr values =>
    have hlen : values.length < 2 ^ 15 := of_decide_eq_true hr
    have hhead := recordHead_copy (values ++ rest) (toNat_addressWord_le addr) (not_isRun_copy hlen)
    rw [loByte_addressWord, repeatCount_copy hlen, List.take_left, List.drop_left, if_neg (by simp),
      Nat.add_comm] at hhead
    exact hhead

/-- The loop refuses words that are no record. -/
theorem recordHead_of_malformed {tail : List Half} (h : Malformed tail) : recordHead tail = .malformed := by
  obtain ⟨w, rfl⟩ | ⟨address, cw, rest, rfl, hbad⟩ := h
  · rfl
  by_cases haddr : patchAddrMax < address.toNat
  · exact recordHead_of_large_address rest haddr
  obtain hlarge | ⟨hrun, rfl⟩ | ⟨hcopy, hshort⟩ := hbad
  · exact absurd hlarge haddr
  · exact recordHead_run_without_value (Nat.not_lt.mp haddr) ((isRun_eq_true_iff cw).mpr hrun)
  · have hcount : repeatCount cw = cw.toNat := (repeatCount_eq_mod cw).trans (Nat.mod_eq_of_lt hcopy)
    rw [recordHead_copy rest (Nat.not_lt.mp haddr) (mt (isRun_eq_true_iff cw).mp (Nat.not_le.mpr hcopy)),
      if_pos (hcount ▸ hshort)]

theorem Malformed.length_pos {tail : List Half} (h : Malformed tail) : 0 < tail.length := by
  obtain ⟨w, rfl⟩ | ⟨address, cw, rest, rfl, _⟩ := h <;> exact Nat.succ_pos _

/-! ### One iteration of the parse loop -/

/-- The state whose word pointer has moved past a record of `size` words. -/
def State.passWords (v : State) (size : Nat) : State := { v with seq := { v.seq with pp := v.seq.pp + size } }

theorem recordLoop_nil (n : Nat) (v : State) : recordLoop n [] v = v := by cases n <;> rfl

theorem recordLoop_of_malformed {words : List Half} (h : recordHead words = .malformed) (n : Nat) (v : State) :
    recordLoop (n + 1) words v = v.runPrim (.raise .patchFormatError (zext32 v.seq.pp)) := by
  rw [recordLoop, h]

theorem recordLoop_of_record {words rest : List Half} {addr : Byte} {values : List Half} {size : Nat}
    (h : recordHead words = .record addr values size rest) (n : Nat) (v : State) :
    recordLoop (n + 1) words v =
      ((v.passWords size).runAs (.writes addr values) (writeLoop addr values)).runAs (.records n rest)
        (recordLoop n rest) := by
  rw [recordLoop, h]
  rfl

/-! ### The state after some writes -/

theorem writesEvents_append (k : Nat) (ws ws' : List (Byte × Half)) :
    writesEvents s k (ws ++ ws') = writesEvents s k ws ++ writesEvents s (k + 4 * ws.length) ws' := by
  induction ws generalizing k with
  | nil => rfl
  | cons w ws ih =>
    rw [List.cons_append, writesEvents, writesEvents, ih, List.append_assoc, List.length_cons,
      show k + 4 + 4 * ws.length = k + 4 * (ws.length + 1) by omega]

/-- The state of a LOAD_PATCH taken in `s` after the register writes `ws`, with mode `b` and sequencing state `q`. (`BUSMODE` is
as before the command where nothing has been written.) -/
def State.afterWrites (s : State) (ws : List (Byte × Half)) (b : BusMode) (q : Sequencer) : State :=
  { s.accept.afterBus (writesEvents s 0 ws) (2 * ws.length) (4 * ws.length) q with busMode := b }

variable (ws : List (Byte × Half)) (b : BusMode) (q : Sequencer)

/-- A write frame after the writes `ws` is one write more. -/
theorem afterWrites_afterBus_write (addr : Byte) (x : Half) (q' : Sequencer) :
    (s.afterWrites ws b q).afterBus (writeEvents (s.afterWrites ws b q) 0 addr x) 2 4 q' =
      s.afterWrites (ws ++ [(addr, x)]) .idle q' := by
  have hevents : writeEvents (s.afterWrites ws b q) 0 addr x = writeEvents s (4 * ws.length) addr x :=
    afterBus_writeEvents s.accept (writesEvents s 0 ws) (2 * ws.length) (4 * ws.length) q 0 addr x
  have hsnoc : writesEvents s 0 (ws ++ [(addr, x)]) = writesEvents s 0 ws ++ writeEvents s (4 * ws.length) addr x := by
    simp [writesEvents_append, writesEvents]
  rw [hevents, State.afterWrites, State.afterWrites, hsnoc, List.length_append]
  exact afterBus_afterBus s.accept (writesEvents s 0 ws) (2 * ws.length) (4 * ws.length) q _ 2 4 q'

/-- The response after the writes `ws` leaves the registers and the store as before the command. -/
theorem sameRegisters_afterWrites_respond (st : Status) (v : Word) :
    SameRegisters s ((s.afterWrites ws b q).respond st v []) :=
  { sameRegisters_afterBus_respond s (writesEvents s 0 ws) (2 * ws.length) (4 * ws.length) q st v [] with }

/-- The response after the writes `ws` ends the command, with the events of these writes. -/
theorem ended_afterWrites_respond (st : Status) (v : Word) :
    Ended s ((s.afterWrites ws b q).respond st v []) ⟨st, v, []⟩ (writesEvents s 0 ws) (2 * ws.length)
      (4 * ws.length) :=
  { ended_afterBus_respond s (writesEvents s 0 ws) (2 * ws.length) (4 * ws.length) q st v [] with }

/-! ### LOAD_PATCH in progress -/

/-- `v` is the state of a LOAD_PATCH taken in `s`, whose word pointer is `pp` and which has made the register writes `ws`. -/
structure Patched (s : State) (pp : Nat) (ws : List (Byte × Half)) (v : State) : Prop where
  state : v = s.afterWrites ws v.busMode v.seq
  idle : s.busMode = .idle → v.busMode = .idle
  pp : v.seq.pp = pp
  writes : v.seq.writes = ws.length

variable {s ws} {v : State} {pp : Nat}

theorem Patched.busy (h : Patched s pp ws v) : v.busy = true := h.state ▸ rfl
theorem Patched.todo (h : Patched s pp ws v) : v.todo = [] := h.state ▸ rfl
theorem Patched.resetScript (h : Patched s pp ws v) (hr : s.resetScript = []) : v.resetScript = [] := h.state ▸ hr

theorem Patched.deviceReady (h : Patched s pp ws v) {n : Nat} (hd : DeviceReady s (2 * ws.length + n)) :
    DeviceReady v n := by
  rw [h.state]
  exact hd.accept.afterBus (writesEvents s 0 ws) (4 * ws.length) v.seq

/-- The first line sets the word pointer and the number of writes to 0. -/
theorem patched_patchInit (hr : s.resetScript = []) : Patched s 0 [] (s.accept.runPrim .patchInit) := by
  rw [runPrim_now s.accept .patchInit rfl rfl hr]
  exact ⟨rfl, id, rfl, rfl⟩

/-- The word pointer moves past a record before its writes. -/
theorem Patched.passWords (h : Patched s pp ws v) (size : Nat) :
    Patched s (pp + size) ws (v.passWords size) where
  state := congrArg (fun t : State => { t with seq := (v.passWords size).seq }) h.state
  idle := h.idle
  pp := congrArg (· + size) h.pp
  writes := h.writes

/-- One write more: its frame, then the count. -/
theorem Patched.write (h : Patched s pp ws v) (addr : Byte) (x : Half)
    (hd : DeviceReady s (2 * ws.length + 2)) :
    Patched s pp (ws ++ [(addr, x)]) (v.runPrims (regWriteLines addr x ++ [.countWrite])) := by
  have hframe : v.afterBus (writeEvents v 0 addr x) 2 4 v.seq.waited =
      s.afterWrites (ws ++ [(addr, x)]) .idle v.seq.waited := by
    have hwrite := afterWrites_afterBus_write s ws v.busMode v.seq addr x v.seq.waited
    rwa [← h.state] at hwrite
  have hcount := runPrim_now (s.afterWrites (ws ++ [(addr, x)]) .idle v.seq.waited) .countWrite rfl rfl hd.1
  rw [runPrims_append, runPrims_regWriteLines v addr x h.busy h.todo (h.deviceReady hd), hframe, runPrims_cons,
    runPrims_nil, hcount]
  refine ⟨rfl, fun _ => rfl, h.pp, ?_⟩
  rw [List.length_append]
  exact congrArg (· + 1) h.writes

/-- The writes of one record, by induction on its values: all go to the record's address (R225). -/
theorem Patched.writeLoop (addr : Byte) (values : List Half) (h : Patched s pp ws v)
    (hd : DeviceReady s (2 * (ws.length + values.length))) :
    Patched s pp (ws ++ values.map fun x => (addr, x)) (writeLoop addr values v) := by
  induction values generalizing ws v with
  | nil => simpa [Machine.writeLoop] using h
  | cons x xs ih =>
    rw [List.length_cons] at hd
    have hnext := h.write addr x (hd.mono (by omega))
    have hready : DeviceReady s (2 * ((ws ++ [(addr, x)]).length + xs.length)) := hd.mono (by simp; omega)
    rw [Machine.writeLoop, runAs_now _ _ _ hnext.busy hnext.todo (hnext.resetScript hd.1)]
    simpa using ih hnext hready

/-- A record at the front of the words left is passed, and its writes are made. -/
theorem Patched.recordLoop_succ (h : Patched s pp ws v) (r : PatchRecord) (hr : r.valid = true) (n : Nat)
    (rest : List Half) (hd : DeviceReady s (2 * (ws.length + r.writes.length))) :
    ∃ w, recordLoop (n + 1) (r.words ++ rest) v = recordLoop n rest w ∧
      Patched s (pp + r.words.length) (ws ++ r.writes) w := by
  rw [r.writes_eq_map, List.length_map] at hd
  have hpast := h.passWords r.words.length
  have hwritten := hpast.writeLoop r.addr r.values hd
  refine ⟨_, ?_, r.writes_eq_map ▸ hwritten⟩
  rw [recordLoop_of_record (recordHead_words_append r hr rest),
    runAs_now _ _ _ hpast.busy hpast.todo (hpast.resetScript hd.1),
    runAs_now _ _ _ hwritten.busy hwritten.todo (hwritten.resetScript hd.1)]

/-- The loop over the words of any records, by induction on them: their writes are made, and what is left of the loop is over the
words that follow them, with a bound that still suffices. -/
theorem Patched.recordLoop (records : List PatchRecord) (tail : List Half) (h : Patched s pp ws v)
    (hvalid : ∀ r ∈ records, r.valid = true) (n : Nat)
    (hn : (records.flatMap PatchRecord.words ++ tail).length ≤ n)
    (hd : DeviceReady s (2 * (ws.length + (records.flatMap PatchRecord.writes).length))) :
    ∃ m w, recordLoop n (records.flatMap PatchRecord.words ++ tail) v = recordLoop m tail w ∧ tail.length ≤ m ∧
      Patched s (pp + (records.flatMap PatchRecord.words).length) (ws ++ records.flatMap PatchRecord.writes) w := by
  induction records generalizing pp ws v n with
  | nil => exact ⟨n, v, rfl, hn, by simpa using h⟩
  | cons r rs ih =>
    simp only [List.flatMap_cons, List.append_assoc, List.length_append] at hn hd ⊢
    have hpos : 0 < r.words.length := by cases r <;> exact Nat.succ_pos _
    obtain ⟨n, rfl⟩ := Nat.exists_eq_add_one_of_ne_zero (by omega : n ≠ 0)
    obtain ⟨w, hloop, hpast⟩ := h.recordLoop_succ r (hvalid r List.mem_cons_self) n
      (rs.flatMap PatchRecord.words ++ tail) (hd.mono (by omega))
    obtain ⟨m, w', hrest, hm, hend⟩ := ih hpast (fun q hq => hvalid q (List.mem_cons_of_mem r hq)) n
      (by rw [List.length_append]; omega) (hd.mono (by rw [List.length_append]; omega))
    rw [Nat.add_assoc, List.append_assoc] at hend
    exact ⟨m, w', hloop.trans hrest, hm, hend⟩

/-- At words that are no record the loop raises, with the word pointer as the value. -/
theorem Patched.recordLoop_malformed {tail : List Half} (h : Patched s pp ws v) (hbad : Malformed tail)
    (hr : s.resetScript = []) (hi : s.busMode = .idle) {m : Nat} (hm : tail.length ≤ m) :
    Machine.recordLoop m tail v = v.respond .patchFormatError (zext32 pp) [] := by
  obtain ⟨m, rfl⟩ := Nat.exists_eq_add_one_of_ne_zero (by have := hbad.length_pos; omega : m ≠ 0)
  rw [recordLoop_of_malformed (recordHead_of_malformed hbad), runPrim_now v _ h.busy h.todo (h.resetScript hr), h.pp]
  exact congrArg (State.respond · _ _ _) (if_pos (h.idle hi))

/-! ### The obligations -/

/-- LOAD_PATCH with no hardware reset coming: the first line, the loop, the answer. -/
theorem exec_loadPatch_eq (words : List Half) (hr : s.resetScript = []) :
    exec (.loadPatch words) s =
      .next ((recordLoop words.length words (s.accept.runPrim .patchInit)).runPrim (.answer .writes)) := by
  have hinit := patched_patchInit hr
  have hloop := runAs_now _ (.records words.length words) (recordLoop words.length words) hinit.busy hinit.todo
    (hinit.resetScript hr)
  exact congrArg (fun t : State => Host.Outcome.next (t.runPrim (.answer .writes))) hloop

/-- LOAD_PATCH against a ready device, up to the end of the records in front of `tail`. -/
theorem exec_loadPatch_records (records : List PatchRecord) (tail : List Half)
    (hvalid : ∀ r ∈ records, r.valid = true)
    (hd : DeviceReady s (2 * (records.flatMap PatchRecord.writes).length)) :
    ∃ m w, exec (.loadPatch (records.flatMap PatchRecord.words ++ tail)) s =
        .next ((recordLoop m tail w).runPrim (.answer .writes)) ∧ tail.length ≤ m ∧
      Patched s (records.flatMap PatchRecord.words).length (records.flatMap PatchRecord.writes) w := by
  obtain ⟨m, w, hloop, hm, hw⟩ := (patched_patchInit hd.1).recordLoop records tail hvalid _ le_rfl
    (by simpa using hd)
  rw [Nat.zero_add, List.nil_append] at hw
  exact ⟨m, w, by rw [exec_loadPatch_eq _ hd.1, hloop], hm, hw⟩

/-- Settles O40: after the last record no word is left, and the answer is the number of writes. -/
theorem loadPatchWritesEveryRecord : Obligations.LoadPatchWritesEveryRecord := by
  intro s records hvalid hd
  obtain ⟨m, w, hexec, _, hw⟩ := exec_loadPatch_records records [] hvalid hd
  rw [List.append_nil, recordLoop_nil,
    runPrim_now w _ hw.busy hw.todo (hw.resetScript hd.1)] at hexec
  have hanswer : Prim.run (.answer .writes) w =
      (s.afterWrites (records.flatMap PatchRecord.writes) w.busMode w.seq).respond .ok
        (zext32 (records.flatMap PatchRecord.writes).length) [] := by
    rw [← hw.state, ← hw.writes]
    rfl
  rw [hanswer] at hexec
  exact ⟨_, hexec, sameRegisters_afterWrites_respond s _ _ _ _ _, hw.idle, ended_afterWrites_respond s _ _ _ _ _⟩

/-- Settles O41: after the last record the loop raises at the words that are no record, and the command has ended. -/
theorem loadPatchRefusesAMalformedRecord : Obligations.LoadPatchRefusesAMalformedRecord := by
  intro s records tail hidle hvalid hbad hd
  obtain ⟨m, w, hexec, hm, hw⟩ := exec_loadPatch_records records tail hvalid hd
  rw [hw.recordLoop_malformed hbad hd.1 hidle hm,
    State.runPrim, runAs_ended _ _ _ rfl, hw.state] at hexec
  exact ⟨_, hexec, sameRegisters_afterWrites_respond s _ _ _ _ _, hw.idle hidle,
    ended_afterWrites_respond s _ _ _ _ _⟩

/-- Settles O42: the two examples of the document are a run record and a copy record. -/
theorem loadPatchDocumentRecords : Obligations.LoadPatchDocumentRecords := by
  intro s hd
  obtain ⟨t, hrun, -, -, htended⟩ := loadPatchWritesEveryRecord s [.run 0x10 5 0x1234] (by decide) hd
  obtain ⟨u, hcopy, -, -, huended⟩ := loadPatchWritesEveryRecord s [.copy 0x20 [0x0001, 0x0002, 0x0003]] (by decide)
    (hd.mono (by decide))
  exact ⟨⟨t, hrun, htended.events, htended.responses⟩, ⟨u, hcopy, huended.events, huended.responses⟩⟩

end Sys2Proof.Machine
end

section
/-!
PROOFS. Volume and balance (45_playback_controller.md R244, R245, R247 to R249): the bytes of the volume value from the two levels,
and SET_VOLUME and SET_BALANCE with an operand in range against a ready device.
-/

namespace Sys2Proof.Machine

/-! ### The volume value (R107, R244, R245) -/

variable (vol : Nat) (bal : Int)

/-- The map needs no wrap: no byte is above 0xFE, whatever the level. -/
theorem channelByte_toNat (l : Nat) : (channelByte l).toNat = 254 - 254 * l / 100 := by
  have hlt : 254 - 254 * l / 100 < 2 ^ 8 := by omega
  exact (BitVec.toNat_ofNat ..).trans (Nat.mod_eq_of_lt hlt)

theorem leftLevel_eq : leftLevel vol bal = (if 0 < bal then max 0 ((vol : Int) - bal) else vol).toNat := by
  unfold leftLevel
  split <;> omega

theorem rightLevel_eq :
    rightLevel vol bal = (if bal < 0 then max 0 ((vol : Int) - bal.natAbs) else vol).toNat := by
  unfold rightLevel
  split <;> omega

@[simp] theorem hiByte_volValue : hiByte (volValue vol bal) = channelByte (leftLevel vol bal) := hiByte_append _ _

@[simp] theorem loByte_volValue : loByte (volValue vol bal) = channelByte (rightLevel vol bal) := loByte_append _ _

/-! ### SET_VOLUME and SET_BALANCE with an operand in range (R247, R248) -/

variable (s : State)

/-- The state after a command that has written `VOL` or `BAL`, as they stand in `s`, sent the volume value and answered it. -/
def State.volumeSent (s : State) : State :=
  (s.accept.afterBus (writeEvents s 0 s.cfg.regVol (volValue s.vol s.bal)) 2 4 s.seq.waited).respond .ok
    (zextHalf (volValue s.vol s.bal)) []

theorem volumeSent_events :
    s.volumeSent.events = s.events ++ writeEvents s 0 s.cfg.regVol (volValue s.vol s.bal) :=
  (ended_afterBus_respond s _ 2 4 s.seq.waited _ _ []).events

/-- The frame sent from `s` used up four bytes of the device. -/
theorem volumeSent_writeEvents (k : Nat) (addr : Byte) (v : Half) :
    writeEvents s.volumeSent k addr v = writeEvents s (4 + k) addr v :=
  afterBus_writeEvents s.accept (writeEvents s 0 s.cfg.regVol (volValue s.vol s.bal)) 2 4 s.seq.waited k addr v

theorem DeviceReady.volumeSent {s : State} {n : Nat} (h : DeviceReady s (2 + n)) : DeviceReady s.volumeSent n :=
  (h.accept.afterBus _ 4 s.seq.waited).respond .ok _ []

/-- The lines that SET_VOLUME and SET_BALANCE share: one write frame, then the answer. -/
theorem sendVolume_accept (hd : DeviceReady s 2) : sendVolume s.accept = s.volumeSent := by
  have hframe := runPrims_regWriteLines s.accept s.cfg.regVol (volValue s.vol s.bal) rfl rfl hd.accept
  unfold sendVolume
  rw [runPrims_append]
  exact (congrArg (State.runPrims · _) hframe).trans (accept_afterBus_answer s _ 2 4 _ _ hd.1)

theorem exec_setVolume_eq (v : Byte) (hv : v.toNat ≤ 100) (hd : DeviceReady s 2) :
    exec (.setVolume v) s = .next (State.volumeSent { s with vol := v.toNat }) := by
  rw [← sendVolume_accept { s with vol := v.toNat } hd]
  exact if_neg (Nat.not_lt.mpr hv)

theorem exec_setBalance_eq (b : Byte) (hb : -100 ≤ b.toInt ∧ b.toInt ≤ 100) (hd : DeviceReady s 2) :
    exec (.setBalance b) s = .next (State.volumeSent { s with bal := b.toInt }) := by
  have habs : b.toInt.natAbs ≤ 100 := by omega
  rw [← sendVolume_accept { s with bal := b.toInt } hd]
  exact if_neg (Nat.not_lt.mpr habs)

/-- SET_VOLUME and then SET_BALANCE, each in range: the last frame carries the value of the two operands, whatever `VOL` and `BAL`
were before. -/
theorem exec_setVolume_setBalance (v b : Byte) (hv : v.toNat ≤ 100) (hb : -100 ≤ b.toInt ∧ b.toInt ≤ 100)
    (hd : DeviceReady s 4) :
    ∃ t u, exec (.setVolume v) s = .next t ∧ exec (.setBalance b) t = .next u ∧
      u.events = t.events ++ writeEvents s 4 s.cfg.regVol (volValue v.toNat b.toInt) := by
  have hready : DeviceReady (State.volumeSent { s with vol := v.toNat }) 2 := DeviceReady.volumeSent (n := 2) hd
  refine ⟨_, _, exec_setVolume_eq s v hv (hd.mono (by omega)), exec_setBalance_eq _ b hb hready, ?_⟩
  refine (volumeSent_events _).trans (congrArg _ ?_)
  exact volumeSent_writeEvents { s with vol := v.toNat } 0 s.cfg.regVol (volValue v.toNat b.toInt)

/-! ### The obligations -/

/-- Settles O47: the bytes of the volume value are the channel bytes of the two levels. -/
theorem volumeValueFromTheLevels : Obligations.VolumeValueFromTheLevels := by
  intro vol bal _ _ _
  rw [hiByte_volValue, loByte_volValue, channelByte_toNat, channelByte_toNat, leftLevel_eq, rightLevel_eq]
  exact ⟨rfl, rfl⟩

/-- Settles O50: each example is a pair of operands in range, and the value is that of the two levels. -/
theorem volumeDocumentExamples : Obligations.VolumeDocumentExamples := by
  intro s v b value hd hmem
  have hexample : v.toNat ≤ 100 ∧ (-100 ≤ b.toInt ∧ b.toInt ≤ 100) ∧ volValue v.toNat b.toInt = value := by
    simp only [List.mem_cons, List.not_mem_nil, or_false, Prod.mk.injEq] at hmem
    obtain ⟨rfl, rfl, rfl⟩ | ⟨rfl, rfl, rfl⟩ | ⟨rfl, rfl, rfl⟩ := hmem <;> decide
  obtain ⟨hv, hb, rfl⟩ := hexample
  exact exec_setVolume_setBalance s v b hv hb hd

end Sys2Proof.Machine
end

section
/-!
PROOFS. The system command (46_system_commands.md R270, R271): GET_REG answers at once, with the internal register or with
`ArgRange`, and the table of R271 is what the model reads for its ten numbers.
-/

namespace Sys2Proof.Machine

variable (s : State)

/-- Taking a command touches no port. -/
theorem samePorts_accept : SamePorts s s.accept := ⟨rfl, rfl, rfl, rfl, rfl, rfl, rfl, rfl, rfl⟩

/-- With no transaction open and no hardware reset coming, `raise` in a command just taken is the response alone. -/
theorem accept_runPrim_raise (st : Status) (v : Word) (hr : s.resetScript = []) (hi : s.busMode = .idle) :
    s.accept.runPrim (.raise st v) = s.accept.respond st v [] :=
  (runPrim_now s.accept (.raise st v) rfl rfl hr).trans (raise_of_idle s.accept st v hi)

/-! ### GET_REG on both sides of its range (R270) -/

theorem exec_getReg_inRange (k : Byte) (hk : k.toNat ≤ 9) (hr : s.resetScript = []) :
    exec (.getReg k) s = .next (s.accept.respond .ok (s.intReg k.toNat) []) := by
  rw [← accept_runPrim_answer_value s (s.intReg k.toNat) hr]
  exact if_neg (Nat.not_lt.mpr hk)

theorem exec_getReg_outOfRange (k : Byte) (hk : 9 < k.toNat) (hr : s.resetScript = []) (hi : s.busMode = .idle) :
    exec (.getReg k) s = .next (s.accept.respond .argRange (k.setWidth 32) []) := by
  rw [← accept_runPrim_raise s .argRange (k.setWidth 32) hr hi]
  exact if_pos hk

/-! ### The internal registers (R271) -/

/-- The rows of R271: the number of each internal register and its value in `s`. -/
def State.intRegTable (s : State) : List (Byte × Word) :=
  [(0, zext32 s.rdi), (1, zext32 s.wri), (2, zext32 s.cnt), (3, zext32 s.vol), (4, BitVec.ofInt 32 s.bal),
    (5, s.tone.setWidth 32), (6, s.fill.setWidth 32), (7, s.modeMir.setWidth 32), (8, s.status),
    (9, zext32 s.cfg.capacity)]

/-- The table lists the numbers 0 to 9 in order, each with what `intReg` reads for it. -/
theorem intRegTable_eq_map :
    s.intRegTable = (List.range 10).map fun n => (BitVec.ofNat 8 n, s.intReg n) := rfl

theorem intReg_of_mem_intRegTable {p : Byte × Word} (hp : p ∈ s.intRegTable) :
    p.1.toNat ≤ 9 ∧ s.intReg p.1.toNat = p.2 := by
  rw [intRegTable_eq_map] at hp
  obtain ⟨n, hn, rfl⟩ := List.mem_map.mp hp
  have hlt : n < 10 := List.mem_range.mp hn
  have htoNat : (BitVec.ofNat 8 n).toNat = n := (BitVec.toNat_ofNat n 8).trans (Nat.mod_eq_of_lt (by omega))
  exact ⟨htoNat.le.trans (by omega), congrArg s.intReg htoNat⟩

/-! ### The obligation -/

/-- Settles O57: GET_REG is an answer sent at once from the state as it is, of a row of R271's table for a number up to 9, and
of `ArgRange` above. -/
theorem getRegCompletes : Obligations.GetRegCompletes := by
  intro s hr
  have hanswered (st : Status) (v : Word) : Ended s (s.accept.respond st v []) ⟨st, v, []⟩ [] 0 0 :=
    (samePorts_accept s).ended_respond st v []
  constructor
  · intro p hp
    obtain ⟨hk, hval⟩ := intReg_of_mem_intRegTable s hp
    rw [← hval]
    exact ⟨_, exec_getReg_inRange s p.1 hk hr, sameRegisters_accept_respond s _ _ _, rfl, hanswered _ _⟩
  · intro k hk hi
    exact ⟨_, exec_getReg_outOfRange s k hk hr hi, sameRegisters_accept_respond s _ _ _, hi, hanswered _ _⟩

end Sys2Proof.Machine
end

section
/-!
PROOFS. A command as a list of lines: what a line or a loop does at once and which lines it leaves to run, so that every command and
every later step of it is one list of lines, and an induction over what is left to run serves all statements about whole commands.
-/

namespace Sys2Proof.Machine

/-! ### What a line does at once, and the lines it leaves to run -/

/-- Lines without a loop as lines of a command. -/
def lines (ps : List Prim) : List Task := ps.map .prim

/-- `Stream` (R201). -/
def streamTasks (src : Source) : List Task :=
  lines [.openBus .data, .posInit] ++ [.bursts src.length src] ++ lines [.closeBus]

/-- `SelfTest` (R190). -/
def selfTestTasks (c : Cfg) (delta : Nat) : List Task := lines [.sweepInit] ++ [.sweep c.sweepEnd delta]

/-- The sample of a wait that read 0 last is the one that reaches `WAIT_BOUND` (R165). -/
def State.boundReached (s : State) : Bool := s.cfg.waitBound.any fun k => decide (k ≤ s.seq.polls + 1)

/-- What a line without a loop does at once: a wait samples once, and a yield shows its event and, below the bound, stands. -/
def Prim.effect (p : Prim) (s : State) : State :=
  match p with
  | .wait => { s.samplePoll with seq := { s.seq with polls := 0 } }
  | .pollAgain => s.samplePoll
  | .yield =>
      { s.emit .yield with
        seq := { s.seq with polls := s.seq.polls + 1 }, todo := if s.boundReached then [] else [.prim .pollAgain] }
  | p => p.run s

/-- The lines a line without a loop leaves to run: a sample that reads 0 is followed by the yield, and a yield at the bound by giving
up. -/
def Prim.expand (p : Prim) (s : State) : List Task :=
  match p with
  | .wait | .pollAgain => if s.pollAt 0 then [] else lines [.yield]
  | .yield =>
      if s.boundReached then lines ((if s.busMode = .idle then [] else [.closeBus]) ++ [.raise .busTimeout 0]) else []
  | _ => []

/-- The lines of one burst (R201). -/
def burstLines (src : Source) (s : State) : List Prim :=
  [.wait] ++ (src.burst s.fill s.seq.pos (min (src.length - s.seq.pos) s.cfg.subchunkMax)).map .send ++
    [.posAdd (min (src.length - s.seq.pos) s.cfg.subchunkMax)]

/-- The configuration writes of BEGIN (R239). -/
def configLines (c : Cfg) : List Prim :=
  regWriteLines c.regSrate c.srateInit ++ regWriteLines c.regClock c.clockInit ++ [.setSpeed .high] ++
    regWriteLines c.regMode c.modeInit

/-- One iteration of STOP_SONG with `n` left, or its end with none (R210). -/
def stopRound (c : Cfg) : Nat → List Task
  | 0 => lines [.raise .stopIncomplete (zext32 c.stopBudget)]
  | n + 1 => streamTasks (.filler c.nStopSmall) ++ lines (regReadLines c.regMode ++ [.mirror]) ++ [.cancelTest n]

/-- What a line or loop does at once. -/
def Task.effect (t : Task) (s : State) : State :=
  match t with
  | .prim p => p.effect s
  | .cancelTest _ => if s.cancelSet then { s with seq := { s.seq with sti := s.seq.sti + 1 } } else s
  | .records (_ + 1) words =>
    match recordHead words with
    | .record _ _ size _ => s.passWords size
    | _ => s
  | _ => s

/-- The lines a line or loop leaves to run. -/
def Task.expand (t : Task) (s : State) : List Task :=
  match t with
  | .prim p => p.expand s
  | .bursts (n + 1) src => if s.seq.pos < src.length then lines (burstLines src s) ++ [.bursts n src] else []
  | .sweep (n + 1) delta =>
    if s.seq.swi < s.cfg.sweepEnd ∧ s.seq.mism < Config.mismatchLimit then
      lines (sampleLines s.cfg (BitVec.ofNat 16 s.seq.swi) delta) ++ [.sweep n delta]
    else []
  | .lowTest => if s.seq.absent then lines [.setPullup true] else selfTestTasks s.cfg Config.deltaSlow
  | .bringUpChain =>
    if s.seq.lowOK then
      lines (configLines s.cfg) ++ selfTestTasks s.cfg Config.deltaFast ++
        lines ([.judgeHigh] ++ wramReadLines s.cfg.fillAddr ++ [.keepFill])
    else lines [.degrade]
  | .stopLoop n => stopRound s.cfg n
  | .cancelTest n =>
    if s.cancelSet then stopRound s.cfg n
    else streamTasks (.filler s.cfg.nStopBig) ++ lines [.answer .iterations]
  | .writes addr (v :: vs) => lines (regWriteLines addr v ++ [.countWrite]) ++ [.writes addr vs]
  | .records (n + 1) words =>
    match recordHead words with
    | .done => []
    | .malformed => lines [.raise .patchFormatError (zext32 s.seq.pp)]
    | .record addr values _ rest => [.writes addr values, .records n rest]
  | .bursts 0 _ | .sweep 0 _ | .writes _ [] | .records 0 _ => []

/-! ### Running lists of lines -/

variable (s : State)

@[simp] theorem runTasks_nil : s.runTasks [] = s := rfl

theorem runTasks_cons (t : Task) (ts : List Task) : s.runTasks (t :: ts) = (s.runAs t (runTask t)).runTasks ts := rfl

theorem runTasks_append (ts us : List Task) : s.runTasks (ts ++ us) = (s.runTasks ts).runTasks us := List.foldl_append

theorem runTasks_lines (ps : List Prim) : s.runTasks (lines ps) = s.runPrims ps := List.foldl_map

theorem runTasks_ended (ts : List Task) (h : s.busy = false) : s.runTasks ts = s := by
  induction ts with
  | nil => rfl
  | cons t ts ih => rw [runTasks_cons, runAs_ended s t _ h, ih]

/-- The state of a waiting command that has put `ts` off, behind the lines put off already. -/
def State.putOff (s : State) (ts : List Task) : State := { s with todo := s.todo ++ ts }

/-- A command that waits puts all its lines off, in order. -/
theorem runTasks_waiting (ts : List Task) (h : s.busy = true) (ht : s.todo ≠ []) :
    s.runTasks ts = s.putOff ts := by
  induction ts generalizing s with
  | nil => simp [State.putOff]
  | cons t ts ih =>
    obtain ⟨u, us, hus⟩ := List.exists_cons_of_ne_nil ht
    have hput : s.runAs t (runTask t) = s.putOff [t] := by
      rw [runAs_waiting s t u us _ h hus, ← hus]
      rfl
    rw [runTasks_cons, hput, ih (s.putOff [t]) h (by simp [State.putOff])]
    simp [State.putOff]

theorem runTasks_reset (t : Task) (ts : List Task) (rest : List Nat) (h : s.busy = true) (ht : s.todo = [])
    (hr : s.resetScript = 0 :: rest) : s.runTasks (t :: ts) = s.hardwareReset := by
  rw [runTasks_cons, runAs_reset s t _ rest h ht hr]
  exact runTasks_ended _ ts rfl

/-! ### A line is its effect and the lines it leaves -/

theorem runAs_cfg (t : Task) (f : State → State) (hf : ∀ u, (f u).cfg = u.cfg) : (s.runAs t f).cfg = s.cfg := by
  unfold State.runAs
  split
  · rfl
  · rfl
  · split
    · exact hf s
    · rfl
    · exact hf _

theorem giveUp_cfg : s.giveUp.cfg = s.cfg := by
  have hraise : ∀ u : State, (u.runAs (.prim (.raise .busTimeout 0)) fun v => v.raise .busTimeout 0).cfg = u.cfg :=
    fun u => runAs_cfg u _ _ fun v => raise_cfg v .busTimeout 0
  unfold State.giveUp
  rw [hraise]
  split
  · rfl
  · exact runAs_cfg s _ _ fun _ => rfl

theorem yieldOnce_cfg : s.yieldOnce.cfg = s.cfg := by
  unfold State.yieldOnce
  split
  · rfl
  · dsimp only
    split
    · exact giveUp_cfg _
    · rfl

theorem pollOnce_cfg : s.pollOnce.cfg = s.cfg := by
  unfold State.pollOnce
  split
  · rfl
  · exact runAs_cfg s.samplePoll _ _ yieldOnce_cfg

/-- No line writes the parameters (R6). -/
theorem Prim.run_cfg (p : Prim) : (p.run s).cfg = s.cfg := by
  cases p
  case wait => exact pollOnce_cfg _
  case pollAgain => exact pollOnce_cfg s
  case yield => exact yieldOnce_cfg s
  case raise status info => exact raise_cfg s status info
  case answer a => cases a <;> rfl
  all_goals rfl

theorem runPrims_cfg (ps : List Prim) : (s.runPrims ps).cfg = s.cfg := by
  induction ps generalizing s with
  | nil => rfl
  | cons p ps ih => rw [runPrims_cons, ih, State.runPrim, runAs_cfg s _ _ fun u => p.run_cfg u]

theorem selfTest_eq_runTasks (delta : Nat) : selfTest delta s = s.runTasks (selfTestTasks s.cfg delta) := rfl

theorem giveUp_eq_runTasks :
    s.giveUp = s.runTasks (lines ((if s.busMode = .idle then [] else [.closeBus]) ++ [.raise .busTimeout 0])) := by
  unfold State.giveUp
  split <;> rfl

/-- A line without a loop is its effect and then the lines it leaves. -/
theorem Prim.run_eq_runTasks (p : Prim) (ht : s.todo = []) : p.run s = (p.effect s).runTasks (p.expand s) := by
  have hpoll : ∀ u : State, u.pollOnce = u.samplePoll.runTasks (if u.pollAt 0 then [] else lines [.yield]) := by
    intro u
    unfold State.pollOnce
    split <;> rfl
  cases p
  case wait => exact hpoll _
  case pollAgain => exact hpoll s
  case yield =>
    obtain hw | ⟨k, hw⟩ := Option.eq_none_or_eq_some s.cfg.waitBound
    · simp [Prim.run, State.yieldOnce, Prim.effect, Prim.expand, State.boundReached, hw]
    · by_cases hk : k ≤ s.seq.polls + 1
      · simp [Prim.run, State.yieldOnce, Prim.effect, Prim.expand, State.boundReached, hw, hk, ht, giveUp_eq_runTasks]
      · simp [Prim.run, State.yieldOnce, Prim.effect, Prim.expand, State.boundReached, hw, hk]
  all_goals rfl

/-- A line or loop is its effect and then the lines it leaves. -/
theorem runTask_eq_runTasks (t : Task) (ht : s.todo = []) : runTask t s = (t.effect s).runTasks (t.expand s) := by
  have hstop : ∀ (n : Nat) (u : State), stopLoop n u = u.runTasks (stopRound u.cfg n) := by
    intro n u
    cases n with
    | zero => rfl
    | succ n =>
      rw [stopRound, runTasks_append, runTasks_append, runTasks_lines]
      rfl
  cases t with
  | prim p => exact p.run_eq_runTasks s ht
  | bursts n src =>
    cases n with
    | zero => rfl
    | succ n =>
      simp only [runTask, burstLoop, Task.effect, Task.expand]
      split
      · rw [runTasks_append, runTasks_lines]
        rfl
      · rfl
  | sweep n delta =>
    cases n with
    | zero => rfl
    | succ n =>
      simp only [runTask, sweepLoop, Task.effect, Task.expand]
      split
      · rw [runTasks_append, runTasks_lines]
        rfl
      · rfl
  | lowTest =>
    simp only [runTask, lowTest, Task.effect, Task.expand]
    split <;> rfl
  | bringUpChain =>
    simp only [runTask, bringUpChain, Task.effect, Task.expand]
    split
    · rw [selfTest_eq_runTasks, runTasks_append, runTasks_append, runTasks_lines, runTasks_lines, runPrims_cfg]
      rfl
    · rfl
  | stopLoop n => exact hstop n s
  | cancelTest n =>
    simp only [runTask, cancelTest, Task.effect, Task.expand]
    split
    · exact hstop n _
    · rfl
  | writes addr values =>
    cases values with
    | nil => rfl
    | cons v vs =>
      simp only [runTask, Task.effect, Task.expand]
      rw [writeLoop, runTasks_append, runTasks_lines]
      rfl
  | records n words =>
    cases n with
    | zero => rfl
    | succ n =>
      simp only [runTask, recordLoop, Task.effect, Task.expand]
      cases recordHead words <;> rfl

/-- The next line of a command in progress, with no hardware reset coming. -/
theorem runTasks_line (t : Task) (ts : List Task) (hb : s.busy = true) (ht : s.todo = []) (hr : s.resetScript = []) :
    s.runTasks (t :: ts) = (t.effect s).runTasks (t.expand s ++ ts) := by
  rw [runTasks_cons, runAs_now s t _ hb ht hr, runTask_eq_runTasks s t ht, runTasks_append]

/-- The state with other hardware resets to come. -/
def State.withResets (s : State) (rs : List Nat) : State := { s with resetScript := rs }

/-- The next line of a command in progress, with a hardware reset that is not due. -/
theorem runTasks_line_before_reset (t : Task) (ts : List Task) (n : Nat) (rest : List Nat) (hb : s.busy = true)
    (ht : s.todo = []) :
    (s.withResets ((n + 1) :: rest)).runTasks (t :: ts) =
      (t.effect (s.withResets (n :: rest))).runTasks (t.expand (s.withResets (n :: rest)) ++ ts) := by
  have hrun : (s.withResets ((n + 1) :: rest)).runAs t (runTask t) = runTask t (s.withResets (n :: rest)) := by
    simp [State.runAs, State.withResets, hb, ht]
  rw [runTasks_cons, hrun, runTask_eq_runTasks (s.withResets (n :: rest)) t ht, runTasks_append]

/-! ### Every loop comes to an end -/

/-- The loops by nesting and by the iterations they may still make: what a line leaves to run ranks below it. -/
def Task.rank : Task → ℕ ×ₗ ℕ
  | .prim .yield => toLex (0, 1)
  | .prim .wait | .prim .pollAgain => toLex (0, 2)
  | .prim _ => toLex (0, 0)
  | .bursts n _ | .sweep n _ => toLex (1, n)
  | .writes _ values => toLex (1, values.length)
  | .records n _ => toLex (2, n)
  | .lowTest | .bringUpChain => toLex (2, 0)
  | .stopLoop n => toLex (2, 2 * n)
  | .cancelTest n => toLex (2, 2 * n + 1)

theorem rank_prim_lt (p : Prim) (k n : Nat) : (Task.prim p).rank < toLex (k + 1, n) := by
  have hfst : (ofLex (Task.prim p).rank).1 = 0 := by cases p <;> rfl
  exact Prod.Lex.lt_iff.mpr (.inl (by simp [hfst]))

theorem rank_lt_of_mem_lines {ps : List Prim} {u : Task} (h : u ∈ lines ps) (k n : Nat) : u.rank < toLex (k + 1, n) := by
  obtain ⟨p, -, rfl⟩ := List.mem_map.mp h
  exact rank_prim_lt p k n

theorem rank_lt_of_mem_streamTasks {src : Source} {u : Task} (h : u ∈ streamTasks src) (n : Nat) :
    u.rank < toLex (2, n) := by
  simp only [streamTasks, List.mem_append, List.mem_singleton] at h
  obtain (h | rfl) | h := h
  · exact rank_lt_of_mem_lines h 1 n
  · exact Prod.Lex.lt_iff.mpr (.inl Nat.one_lt_two)
  · exact rank_lt_of_mem_lines h 1 n

theorem rank_lt_of_mem_selfTestTasks {c : Cfg} {delta : Nat} {u : Task} (h : u ∈ selfTestTasks c delta) (n : Nat) :
    u.rank < toLex (2, n) := by
  simp only [selfTestTasks, List.mem_append, List.mem_singleton] at h
  obtain h | rfl := h
  · exact rank_lt_of_mem_lines h 1 n
  · exact Prod.Lex.lt_iff.mpr (.inl Nat.one_lt_two)

theorem rank_lt_of_mem_stopRound {c : Cfg} {n m : Nat} {u : Task} (h : u ∈ stopRound c n) (hm : 2 * n ≤ m) :
    u.rank < toLex (2, m) := by
  cases n with
  | zero => exact rank_lt_of_mem_lines h 1 m
  | succ n =>
    simp only [stopRound, List.mem_append, List.mem_singleton] at h
    obtain (h | h) | rfl := h
    · exact rank_lt_of_mem_streamTasks h m
    · exact rank_lt_of_mem_lines h 1 m
    · exact Prod.Lex.lt_iff.mpr (.inr ⟨rfl, show 2 * n + 1 < m by omega⟩)

theorem rank_lt_of_mem_expand_prim {p : Prim} {u : Task} (h : u ∈ p.expand s) : u.rank < (Task.prim p).rank := by
  have hend : ∀ b : BusMode, ∀ u ∈ lines ((if b = .idle then [] else [.closeBus]) ++ [.raise .busTimeout 0]),
      u.rank < (Task.prim .yield).rank := by
    rintro (_ | m)
    · decide
    · exact of_decide_eq_true rfl
  cases p
  case wait =>
    simp only [Prim.expand] at h
    split at h
    · cases h
    · obtain rfl := List.mem_singleton.mp h
      decide
  case pollAgain =>
    simp only [Prim.expand] at h
    split at h
    · cases h
    · obtain rfl := List.mem_singleton.mp h
      decide
  case yield =>
    simp only [Prim.expand] at h
    split at h
    · exact hend s.busMode u h
    · cases h
  all_goals cases h

theorem rank_lt_of_mem_expand {t u : Task} (h : u ∈ t.expand s) : u.rank < t.rank := by
  have hnext : ∀ k n, (toLex (k, n) : ℕ ×ₗ ℕ) < toLex (k, n + 1) := fun k n =>
    Prod.Lex.lt_iff.mpr (.inr ⟨rfl, Nat.lt_succ_self n⟩)
  cases t with
  | prim p => exact rank_lt_of_mem_expand_prim s h
  | bursts n src =>
    cases n with
    | zero => cases h
    | succ n =>
      simp only [Task.expand] at h
      split at h
      · obtain h | h := List.mem_append.mp h
        · exact rank_lt_of_mem_lines h 0 (n + 1)
        · obtain rfl := List.mem_singleton.mp h
          exact hnext 1 n
      · cases h
  | sweep n delta =>
    cases n with
    | zero => cases h
    | succ n =>
      simp only [Task.expand] at h
      split at h
      · obtain h | h := List.mem_append.mp h
        · exact rank_lt_of_mem_lines h 0 (n + 1)
        · obtain rfl := List.mem_singleton.mp h
          exact hnext 1 n
      · cases h
  | lowTest =>
    simp only [Task.expand] at h
    split at h
    · exact rank_lt_of_mem_lines h 1 0
    · exact rank_lt_of_mem_selfTestTasks h 0
  | bringUpChain =>
    simp only [Task.expand] at h
    split at h
    · obtain h | h := List.mem_append.mp h
      · obtain h | h := List.mem_append.mp h
        · exact rank_lt_of_mem_lines h 1 0
        · exact rank_lt_of_mem_selfTestTasks h 0
      · exact rank_lt_of_mem_lines h 1 0
    · exact rank_lt_of_mem_lines h 1 0
  | stopLoop n => exact rank_lt_of_mem_stopRound h le_rfl
  | cancelTest n =>
    simp only [Task.expand] at h
    split at h
    · exact rank_lt_of_mem_stopRound h (Nat.le_succ _)
    · obtain h | h := List.mem_append.mp h
      · exact rank_lt_of_mem_streamTasks h _
      · exact rank_lt_of_mem_lines h 1 _
  | writes addr values =>
    cases values with
    | nil => cases h
    | cons v vs =>
      obtain h | h := List.mem_append.mp h
      · exact rank_lt_of_mem_lines h 0 _
      · obtain rfl := List.mem_singleton.mp h
        exact hnext 1 vs.length
  | records n words =>
    cases n with
    | zero => cases h
    | succ n =>
      simp only [Task.expand] at h
      split at h
      · cases h
      · exact rank_lt_of_mem_lines h 1 _
      · obtain rfl | h := List.mem_cons.mp h
        · exact Prod.Lex.lt_iff.mpr (.inl Nat.one_lt_two)
        · obtain rfl := List.mem_singleton.mp h
          exact hnext 2 n

theorem rank_lt_three (t : Task) : t.rank < toLex (3, 0) := by
  cases t
  case prim p => exact rank_prim_lt p 2 0
  all_goals exact Prod.Lex.lt_iff.mpr (.inl (of_decide_eq_true rfl))

/-! ### Induction over what is left to run -/

/-- Induction along a command: a fact about every state and list of lines holds if it holds where nothing is run any more, and at a
line if it holds after the line's effect for the lines that are then left. -/
theorem lines_induction {P : State → List Task → Prop} (hended : ∀ s ts, s.busy = false → P s ts)
    (hwaits : ∀ s ts, s.busy = true → s.todo ≠ [] → P s ts) (hdone : ∀ s, s.busy = true → s.todo = [] → P s [])
    (hline : ∀ s t ts, s.busy = true → s.todo = [] → P (t.effect s) (t.expand s ++ ts) → P s (t :: ts)) :
    ∀ s ts, P s ts := by
  have hbelow : ∀ k : ℕ ×ₗ ℕ, ∀ ts : List Task, (∀ t ∈ ts, t.rank < k) → ∀ us, (∀ s, P s us) → ∀ s, P s (ts ++ us) := by
    intro k
    induction k using WellFoundedLT.induction with
    | ind k ihk =>
      intro ts
      induction ts with
      | nil => exact fun _ us hus => hus
      | cons t ts ih =>
        intro hts us hus s
        rw [List.forall_mem_cons] at hts
        obtain ⟨ht, hts⟩ := hts
        by_cases hb : s.busy = true
        · by_cases htodo : s.todo = []
          · exact hline s t (ts ++ us) hb htodo (ihk t.rank ht (t.expand s) (fun u hu => rank_lt_of_mem_expand s hu)
              (ts ++ us) (ih hts us hus) (t.effect s))
          · exact hwaits s _ hb htodo
        · exact hended s _ (Bool.eq_false_iff.mpr hb)
  have hnil : ∀ s, P s [] := by
    intro s
    by_cases hb : s.busy = true
    · by_cases htodo : s.todo = []
      · exact hdone s hb htodo
      · exact hwaits s [] hb htodo
    · exact hended s [] (Bool.eq_false_iff.mpr hb)
  intro s ts
  simpa using hbelow (toLex (3, 0)) ts (fun t _ => rank_lt_three t) [] hnil s

end Sys2Proof.Machine
end

section
/-!
PROOFS. What one line can do, said once: what it keeps, when it ends the command, which event it shows, which parts of the machine it
writes (the rows of 10_state.md R47), and what of it does not depend on the host's resets or on the status bits.
-/

namespace Sys2Proof.Machine

variable (s : State)

/-! ### The host's ports and the parameters -/

/-- The parameters, the host's inputs and the number of hardware resets in `t` are those in `s`. -/
structure SameHost (s t : State) : Prop where
  cfg : t.cfg = s.cfg
  inbox : t.inbox = s.inbox
  resetScript : t.resetScript = s.resetScript
  resets : t.resets = s.resets

theorem SameHost.trans {s t u : State} (h : SameHost s t) (h' : SameHost t u) : SameHost s u :=
  ⟨h'.cfg.trans h.cfg, h'.inbox.trans h.inbox, h'.resetScript.trans h.resetScript, h'.resets.trans h.resets⟩

theorem Prim.effect_sameHost (p : Prim) : SameHost s (p.effect s) := by
  cases p
  case raise status info => exact ⟨by simp [Prim.effect, Prim.run], by simp [Prim.effect, Prim.run],
    by simp [Prim.effect, Prim.run], by simp [Prim.effect, Prim.run]⟩
  case answer a => cases a <;> exact ⟨rfl, rfl, rfl, rfl⟩
  all_goals exact ⟨rfl, rfl, rfl, rfl⟩

/-- A loop does nothing at once but move the word pointer or count an iteration. -/
theorem Task.effect_loop (t : Task) : (∃ p, t = .prim p) ∨ ∃ q : Sequencer, t.effect s = { s with seq := q } := by
  cases t with
  | prim p => exact .inl ⟨p, rfl⟩
  | cancelTest n =>
    right
    simp only [Task.effect]
    split
    · exact ⟨_, rfl⟩
    · exact ⟨s.seq, rfl⟩
  | records n words =>
    right
    cases n with
    | zero => exact ⟨s.seq, rfl⟩
    | succ n =>
      simp only [Task.effect]
      split
      · exact ⟨_, rfl⟩
      · exact ⟨s.seq, rfl⟩
  | _ => exact .inr ⟨s.seq, rfl⟩

theorem Task.effect_sameHost (t : Task) : SameHost s (t.effect s) := by
  obtain ⟨p, rfl⟩ | ⟨q, hq⟩ := t.effect_loop s
  · exact p.effect_sameHost s
  · rw [hq]
    exact ⟨rfl, rfl, rfl, rfl⟩

/-- Induction along a command with no hardware reset coming: what holds before the first line and is kept by every line, by the end of
the command and by putting lines off, holds after the last line. -/
theorem runTasks_invariant {I : State → List Task → Prop}
    (hline : ∀ s t ts, s.busy = true → s.todo = [] → s.resetScript = [] → I s (t :: ts) →
      I (t.effect s) (t.expand s ++ ts))
    (hended : ∀ s ts, s.busy = false → I s ts → I s [])
    (hputs : ∀ s ts, s.busy = true → s.todo ≠ [] → I s ts → I (s.putOff ts) [])
    {s : State} {ts : List Task} (hr : s.resetScript = []) (h : I s ts) : I (s.runTasks ts) [] := by
  revert hr h
  refine lines_induction (P := fun s ts => s.resetScript = [] → I s ts → I (s.runTasks ts) []) ?_ ?_ ?_ ?_ s ts
  · intro s ts hb _ h
    rw [runTasks_ended s ts hb]
    exact hended s ts hb h
  · intro s ts hb ht _ h
    rw [runTasks_waiting s ts hb ht]
    exact hputs s ts hb ht h
  · exact fun s _ _ _ h => h
  · intro s t ts hb ht ih hr h
    rw [runTasks_line s t ts hb ht hr]
    exact ih ((t.effect_sameHost s).resetScript.trans hr) (hline s t ts hb ht hr h)

theorem runTasks_sameHost {s : State} (hr : s.resetScript = []) (ts : List Task) : SameHost s (s.runTasks ts) :=
  runTasks_invariant (I := fun t _ => SameHost s t) (fun u t _ _ _ _ h => h.trans (t.effect_sameHost u))
    (fun _ _ _ h => h) (fun _ _ _ _ h => ⟨h.cfg, h.inbox, h.resetScript, h.resets⟩) hr ⟨rfl, rfl, rfl, rfl⟩

/-! ### The response and the wait -/

/-- A command that has sent no response to `rs` is in progress, and runs or stands in a ready wait; or it has ended with one
response. -/
def AnsweredOnce (rs : List Response) (s : State) : Prop :=
  (s.busy = true ∧ s.responses = rs ∧ (s.todo = [] ∨ ∃ us, s.todo = .prim .pollAgain :: us)) ∨
    (s.busy = false ∧ s.todo = [] ∧ ∃ r, s.responses = r :: rs)

/-- By what it does at once, a line of a running command leaves nothing put off, or stands in a wait. -/
theorem Prim.effect_todo (p : Prim) (ht : s.todo = []) :
    (p.effect s).todo = [] ∨ (p.effect s).todo = [.prim .pollAgain] := by
  cases p
  case yield =>
    simp only [Prim.effect]
    split
    · exact .inl rfl
    · exact .inr rfl
  case raise status info => exact .inl (raise_todo s status info)
  case answer a => exact .inl (by cases a <;> rfl)
  all_goals exact .inl ht

theorem Task.effect_todo (t : Task) (ht : s.todo = []) :
    (t.effect s).todo = [] ∨ (t.effect s).todo = [.prim .pollAgain] := by
  obtain ⟨p, rfl⟩ | ⟨q, hq⟩ := t.effect_loop s
  · exact p.effect_todo s ht
  · rw [hq]
    exact .inl ht

theorem Prim.effect_answeredOnce (p : Prim) (hb : s.busy = true) (ht : s.todo = []) :
    AnsweredOnce s.responses (p.effect s) := by
  have hwaits : (p.effect s).todo = [] ∨ ∃ us, (p.effect s).todo = .prim .pollAgain :: us :=
    (p.effect_todo s ht).imp_right fun h => ⟨[], h⟩
  cases p
  case raise status info => exact .inr ⟨raise_busy s status info, raise_todo s status info, _, raise_responses s status info⟩
  case answer a => cases a <;> exact .inr ⟨rfl, rfl, _, rfl⟩
  all_goals exact .inl ⟨hb, rfl, hwaits⟩

theorem Task.effect_answeredOnce (t : Task) (hb : s.busy = true) (ht : s.todo = []) :
    AnsweredOnce s.responses (t.effect s) := by
  obtain ⟨p, rfl⟩ | ⟨q, hq⟩ := t.effect_loop s
  · exact p.effect_answeredOnce s hb ht
  · rw [hq]
    exact .inl ⟨hb, rfl, .inl ht⟩

theorem runTasks_answeredOnce {s : State} (hb : s.busy = true) (ht : s.todo = []) (hr : s.resetScript = [])
    (ts : List Task) : AnsweredOnce s.responses (s.runTasks ts) := by
  refine runTasks_invariant (I := fun t _ => AnsweredOnce s.responses t) ?_ (fun _ _ _ h => h) ?_ hr
    (.inl ⟨hb, rfl, .inl ht⟩)
  · rintro u t _ hb ht _ (⟨_, hresp, _⟩ | ⟨hended, _⟩)
    · exact hresp ▸ t.effect_answeredOnce u hb ht
    · exact absurd hb (by simp [hended])
  · rintro u ts hb ht (⟨_, hresp, hnil | ⟨us, hus⟩⟩ | ⟨hended, _⟩)
    · exact absurd hnil ht
    · exact .inl ⟨hb, hresp, .inr ⟨us ++ ts, by simp [State.putOff, hus]⟩⟩
    · exact absurd hb (by simp [hended])

/-! ### The parts of the machine that a line writes (R47) -/

/-- The elements of R47's rows, the reset pulse, and the store's port, which a line "writes" by an event at it. -/
inductive Part where
  | rdi | wri | cnt | store | vol | bal | tone | fill | modeMir | busSpd | rdyPull | ready | degraded | hsFail | pulse
  | storePort
  deriving DecidableEq

/-- The part is in `t` as it was in `s`. -/
def Part.Same (e : Part) (s t : State) : Prop :=
  match e with
  | .rdi => t.rdi = s.rdi
  | .wri => t.wri = s.wri
  | .cnt => t.cnt = s.cnt
  | .store => t.store = s.store
  | .vol => t.vol = s.vol
  | .bal => t.bal = s.bal
  | .tone => t.tone = s.tone
  | .fill => t.fill = s.fill
  | .modeMir => t.modeMir = s.modeMir
  | .busSpd => t.busSpd = s.busSpd
  | .rdyPull => t.rdyPull = s.rdyPull
  | .ready => t.ready = s.ready
  | .degraded => t.degraded = s.degraded
  | .hsFail => t.hsFail = s.hsFail
  | .pulse => t.pulse = s.pulse
  | .storePort => ∃ es, t.trace = es ++ s.trace ∧ ∀ e ∈ es, e.atStore = false

/-- The registers among the parts. -/
def State.registers (s : State) :
    Nat × Nat × Nat × Memory × Nat × Int × Half × Byte × Half × BusSpeed × Bool × Bool × Bool × Bool × Bool :=
  (s.rdi, s.wri, s.cnt, s.store, s.vol, s.bal, s.tone, s.fill, s.modeMir, s.busSpd, s.rdyPull, s.ready, s.degraded, s.hsFail,
    s.pulse)

theorem Part.same_of_registers {s t : State} (e : Part) (h : t.registers = s.registers)
    (hport : Part.storePort.Same s t) : e.Same s t := by
  simp only [State.registers, Prod.mk.injEq] at h
  cases e <;> simp only [Part.Same, h]
  exact hport

theorem Part.same_refl (e : Part) : e.Same s s := e.same_of_registers rfl ⟨[], rfl, by simp⟩

theorem Part.Same.trans {e : Part} {s t u : State} (h : e.Same s t) (h' : e.Same t u) : e.Same s u := by
  cases e
  case storePort =>
    obtain ⟨es, htrace, hes⟩ := h
    obtain ⟨es', htrace', hes'⟩ := h'
    exact ⟨es' ++ es, by rw [htrace', htrace, List.append_assoc], List.forall_mem_append.mpr ⟨hes', hes⟩⟩
  all_goals exact Eq.trans h' h

/-- The parts that a line without a loop writes. -/
def Prim.parts : Prim → List Part
  | .storeChunk _ => [.store, .storePort]
  | .advanceWrite => [.wri, .cnt]
  | .loadChunk => [.storePort]
  | .advanceRead => [.rdi, .cnt]
  | .clearRing => [.rdi, .wri, .cnt]
  | .createPlayback => [.vol, .bal, .tone, .fill, .modeMir, .ready, .degraded, .hsFail]
  | .setPullup _ => [.rdyPull]
  | .setSpeed _ => [.busSpd]
  | .resetAssert | .resetRelease => [.pulse]
  | .judgeHigh => [.hsFail]
  | .keepFill => [.fill]
  | .degrade => [.degraded]
  | .becomeReady => [.ready]
  | .mirror => [.modeMir]
  | _ => []

/-- The parts that a line or loop, or one of the lines it leaves to run, writes. -/
def Task.parts : Task → List Part
  | .prim p => p.parts
  | .lowTest => [.rdyPull]
  | .bringUpChain => [.busSpd, .hsFail, .fill, .degraded]
  | .stopLoop _ | .cancelTest _ => [.modeMir]
  | .bursts _ _ | .sweep _ _ | .writes _ _ | .records _ _ => []

/-- Only the ring's lines have events at the store's port, and a line shows at most one event. -/
theorem Prim.effect_trace (p : Prim) :
    ∃ es, (p.effect s).trace = es ++ s.trace ∧ es.length ≤ 1 ∧ (.storePort ∉ p.parts → ∀ e ∈ es, e.atStore = false) := by
  have hone : ∀ e : Event, [e].length ≤ 1 := fun _ => le_rfl
  have hbus : ∀ {e : Event}, e.atStore = false → (.storePort ∉ p.parts → ∀ e' ∈ [e], e'.atStore = false) :=
    fun he _ _ hmem => (List.mem_singleton.mp hmem) ▸ he
  have hnone : (.storePort ∉ p.parts → ∀ e ∈ ([] : List Event), e.atStore = false) := fun _ _ h => nomatch h
  cases p
  case setPullup b =>
    simp only [Prim.effect, Prim.run, State.setPullup]
    split
    · exact ⟨[_], rfl, hone _, hbus rfl⟩
    · split
      · exact ⟨[_], rfl, hone _, hbus rfl⟩
      · exact ⟨[], rfl, Nat.zero_le 1, hnone⟩
  case raise status info =>
    simp only [Prim.effect, Prim.run, State.raise]
    split
    · exact ⟨[], rfl, Nat.zero_le 1, hnone⟩
    · exact ⟨[_], rfl, hone _, hbus rfl⟩
  case answer a => cases a <;> exact ⟨[], rfl, Nat.zero_le 1, hnone⟩
  case storeChunk | loadChunk => exact ⟨[_], rfl, hone _, fun h => absurd (by simp [Prim.parts]) h⟩
  case openBus | closeBus | wait | pollAgain | yield | send | sendReadHi | sendReadLo | recvHi | recvLo | setSpeed
      | resetAssert | resetRelease | sampleReady => exact ⟨[_], rfl, hone _, hbus rfl⟩
  all_goals exact ⟨[], rfl, Nat.zero_le 1, hnone⟩

/-- A line without a loop leaves every part that it does not write. -/
theorem Prim.effect_same (p : Prim) {e : Part} (h : e ∉ p.parts) : e.Same s (p.effect s) := by
  have hport : .storePort ∉ p.parts → Part.storePort.Same s (p.effect s) := fun hp => by
    obtain ⟨es, htrace, -, hes⟩ := p.effect_trace s
    exact ⟨es, htrace, hes hp⟩
  cases p
  case storeChunk | advanceWrite | loadChunk | advanceRead | clearRing | createPlayback | setPullup | setSpeed
      | resetAssert | resetRelease | judgeHigh | keepFill | degrade | becomeReady | mirror =>
    cases e
    case storePort => exact hport h
    all_goals (revert h; simp [Part.Same, Prim.effect, Prim.run, Prim.parts])
  case raise status info => exact e.same_of_registers (by simp [State.registers, Prim.effect, Prim.run]) (hport (by simp [Prim.parts]))
  case answer a => exact e.same_of_registers (by cases a <;> rfl) (hport (by simp [Prim.parts]))
  all_goals exact e.same_of_registers rfl (hport (by simp [Prim.parts]))

/-- A line or loop leaves, by what it does at once, every part that it does not write. -/
theorem Task.effect_same (t : Task) {e : Part} (h : e ∉ t.parts) : e.Same s (t.effect s) := by
  obtain ⟨p, rfl⟩ | ⟨q, hq⟩ := t.effect_loop s
  · exact p.effect_same s h
  · rw [hq]
    exact e.same_of_registers rfl ⟨[], rfl, by simp⟩

theorem parts_lines (ps : List Prim) : (lines ps).flatMap Task.parts = ps.flatMap Prim.parts :=
  List.flatMap_map ..

theorem Prim.parts_expand (p : Prim) : (p.expand s).flatMap Task.parts = [] := by
  cases p
  case wait | pollAgain =>
    simp only [Prim.expand]
    split <;> rfl
  case yield =>
    simp only [Prim.expand]
    split
    · split <;> rfl
    · rfl
  all_goals rfl

theorem parts_burstLines (src : Source) : (burstLines src s).flatMap Prim.parts = [] := by
  simp [burstLines, Prim.parts]

theorem parts_stopRound (c : Cfg) (n : Nat) : (stopRound c n).flatMap Task.parts ⊆ [.modeMir] := by
  cases n with
  | zero => exact List.nil_subset _
  | succ n =>
    have hround : (stopRound c (n + 1)).flatMap Task.parts = [.modeMir, .modeMir] := rfl
    rw [hround]
    decide

/-- A line leaves to run no line that writes another part. -/
theorem Task.parts_expand (t : Task) : (t.expand s).flatMap Task.parts ⊆ t.parts := by
  cases t with
  | prim p => simp [Task.expand, p.parts_expand s]
  | bursts n src =>
    cases n with
    | zero => exact List.nil_subset _
    | succ n =>
      simp only [Task.expand]
      split
      · simp [parts_lines, parts_burstLines, Task.parts]
      · exact List.nil_subset _
  | sweep n delta =>
    cases n with
    | zero => exact List.nil_subset _
    | succ n =>
      simp only [Task.expand]
      split <;> exact List.nil_subset _
  | lowTest =>
    simp only [Task.expand]
    split
    · exact List.Subset.refl _
    · exact List.nil_subset _
  | bringUpChain =>
    have hpass : [Part.busSpd, .hsFail, .fill] ⊆ Task.bringUpChain.parts := by decide
    have hfail : [Part.degraded] ⊆ Task.bringUpChain.parts := by decide
    simp only [Task.expand]
    split
    · exact hpass
    · exact hfail
  | stopLoop n => exact parts_stopRound s.cfg n
  | cancelTest n =>
    simp only [Task.expand]
    split
    · exact parts_stopRound s.cfg n
    · exact List.nil_subset _
  | writes addr values => cases values <;> exact List.nil_subset _
  | records n words =>
    cases n with
    | zero => exact List.nil_subset _
    | succ n =>
      simp only [Task.expand]
      split <;> exact List.nil_subset _

/-- Along a command with no hardware reset coming, a part that no line writes stays, and no line put off writes it. -/
theorem runTasks_same {s : State} {ts : List Task} {e : Part} (ht : s.todo = [])
    (hr : s.resetScript = []) (h : e ∉ ts.flatMap Task.parts) :
    e.Same s (s.runTasks ts) ∧ e ∉ (s.runTasks ts).todo.flatMap Task.parts := by
  refine runTasks_invariant
    (I := fun u us => e.Same s u ∧ e ∉ u.todo.flatMap Task.parts ∧ e ∉ us.flatMap Task.parts) ?_ ?_ ?_ hr
    ⟨e.same_refl s, by simp [ht], h⟩ |>.imp_right And.left
  · rintro u t us hb ht _ ⟨hsame, -, hparts⟩
    rw [List.flatMap_cons, List.mem_append, not_or] at hparts
    refine ⟨hsame.trans (t.effect_same u hparts.1), ?_, ?_⟩
    · obtain htodo | htodo := t.effect_todo u ht <;> rw [htodo] <;> exact List.not_mem_nil
    · rw [List.flatMap_append, List.mem_append, not_or]
      exact ⟨fun hmem => hparts.1 (t.parts_expand u hmem), hparts.2⟩
  · exact fun u us _ ⟨hsame, htodo, _⟩ => ⟨hsame, htodo, List.not_mem_nil⟩
  · rintro u us _ _ ⟨hsame, htodo, hparts⟩
    refine ⟨hsame.trans (e.same_of_registers rfl ⟨[], rfl, by simp⟩), ?_, List.not_mem_nil⟩
    rw [State.putOff, List.flatMap_append, List.mem_append, not_or]
    exact ⟨htodo, hparts⟩

end Sys2Proof.Machine
end

section
/-!
PROOFS. Every command as the list of lines it begins with: what it writes before its first line, its lines, and when it has a next
state; with the parts of the machine that a whole command writes (10_state.md R47).
-/

namespace Sys2Proof.Machine

variable (s : State)

/-! ### The lines of a command -/

/-- The core has taken the command, and the command has written its operand register, before its first line (R247, R248, R252). -/
def State.begun (s : State) : Instr → State
  | .setVolume v => if Config.volMax < v.toNat then s.accept else { s.accept with vol := v.toNat }
  | .setBalance b =>
      if Config.balMax < (balanceOperand b).natAbs then s.accept else { s.accept with bal := balanceOperand b }
  | .setTone n0 n1 n2 n3 => { s.accept with tone := toneValue n0 n1 n2 n3 }
  | _ => s.accept

/-- The lines that SET_VOLUME and SET_BALANCE share. -/
def volumeLines (s : State) : List Prim :=
  regWriteLines s.cfg.regVol (volValue s.vol s.bal) ++ [.answer (.value (zextHalf (volValue s.vol s.bal)))]

/-- The seven transactions of ADJ_RATE (R262). -/
def adjRateLines (c : Cfg) (ppm : Word) : List Prim :=
  regWriteLines Config.regWramAddr c.rateCell ++ regWriteLines Config.regWramData (ppmLow ppm) ++
    regWriteLines Config.regWramData (ppmHigh ppm) ++ wramWriteLines c.clockrefCell c.clockrefInvalid ++
    regReadLines c.regSrate ++ regWriteBackLines c.regSrate

/-- The first lines of BEGIN (R236). -/
def beginLines : List Prim :=
  [.createPlayback, .setPullup false, .setSpeed .low, .resetAssert, .resetRelease, .sampleReady]

/-- The lines that a command begins with. -/
def State.program (s : State) (i : Instr) : List Task :=
  match i with
  | .getReg k =>
      lines [if intRegMax < k.toNat then .raise .argRange (zextByte k) else .answer (.value (s.intReg k.toNat))]
  | .rbReset => lines [.clearRing, .answer (.value 0)]
  | .rbSpace => lines [.answer (.value (boolValue (decide (s.cnt < s.cfg.capacity))))]
  | .rbAvail => lines [.answer (.value (zext32 s.cnt))]
  | .rbFree => lines [.answer (.value (zext32 (s.cfg.capacity - s.cnt)))]
  | .rbWrite chunk =>
      if s.cnt = s.cfg.capacity then lines [.raise .bufferFull 0]
      else lines [.storeChunk chunk, .advanceWrite, .answer (.value 0)]
  | .rbRead =>
      if s.cnt = 0 then lines [.raise .bufferEmpty 0] else lines [.loadChunk, .advanceRead, .answer .chunk]
  | .regRead addr => lines (regReadLines addr ++ [.answer .readValue])
  | .regWrite addr value => lines (regWriteLines addr value ++ [.answer (.value 0)])
  | .wramRead ext => lines (wramReadLines ext ++ [.answer .readValue])
  | .wramWrite ext value => lines (wramWriteLines ext value ++ [.answer (.value 0)])
  | .selfTest fast => selfTestTasks s.cfg (sweepDelta fast) ++ lines [.answer .selfTest]
  | .playChunk data => streamTasks (.bytes data) ++ lines [.answer (.value 0)]
  | .sendFill n => streamTasks (.filler n.toNat) ++ lines [.answer (.value 0)]
  | .startSong => streamTasks (.filler s.cfg.nStartFill) ++ lines [.answer (.value 0)]
  | .stopSong =>
      streamTasks (.filler s.cfg.nStopBig) ++ lines (regWriteLines s.cfg.regMode s.cfg.modeCancelValue ++ [.stiInit]) ++
        [.stopLoop s.cfg.stopBudget]
  | .loadPatch words => lines [.patchInit] ++ [.records words.length words] ++ lines [.answer .writes]
  | .begin =>
      lines beginLines ++ [.lowTest] ++ lines [.judgeLow] ++ [.bringUpChain] ++ lines [.becomeReady, .answer .bringUp]
  | .setVolume v =>
      if Config.volMax < v.toNat then lines [.raise .argRange (zextByte v)]
      else lines (volumeLines (s.begun (.setVolume v)))
  | .setBalance b =>
      if Config.balMax < (balanceOperand b).natAbs then lines [.raise .argRange (zextByte b)]
      else lines (volumeLines (s.begun (.setBalance b)))
  | .setTone n0 n1 n2 n3 =>
      lines (regWriteLines s.cfg.regTone (toneValue n0 n1 n2 n3) ++
        [.answer (.value (zextHalf (toneValue n0 n1 n2 n3)))])
  | .isConnected => lines (regReadLines s.cfg.regStatus ++ [.answer .connected])
  | .getTime => lines (regReadLines s.cfg.regTime ++ [.answer .readValue])
  | .clrTime =>
      lines (regWriteLines s.cfg.regTime 0x0000 ++ regWriteLines s.cfg.regTime 0x0000 ++ [.answer (.value 0)])
  | .adjRate ppm => lines (adjRateLines s.cfg ppm ++ [.answer (.value 0)])

/-- The command does not stop at a store address that does not exist (notes/assumptions/16.md). -/
def State.addressExists (s : State) : Instr → Prop
  | .rbWrite _ => s.cnt = s.cfg.capacity ∨ s.wri < s.cfg.capacity
  | .rbRead => s.cnt = 0 ∨ s.rdi < s.cfg.capacity
  | _ => True

@[simp] theorem begun_cfg (i : Instr) : (s.begun i).cfg = s.cfg := by
  cases i
  case setVolume | setBalance =>
    simp only [State.begun]
    split <;> rfl
  all_goals rfl

theorem exec_rbWrite_eq (chunk : List Byte) (h : s.addressExists (.rbWrite chunk)) :
    exec (.rbWrite chunk) s = .next (s.accept.runTasks (s.program (.rbWrite chunk))) := by
  simp only [exec, execRbWrite, State.program]
  by_cases hfull : s.cnt = s.cfg.capacity
  · simp only [if_pos hfull]
    rfl
  · have hwri : ¬ s.cfg.capacity ≤ s.wri := Nat.not_le.mpr (h.resolve_left hfull)
    simp only [if_neg hfull, if_neg hwri]
    rfl

theorem exec_rbRead_eq (h : s.addressExists .rbRead) :
    exec .rbRead s = .next (s.accept.runTasks (s.program .rbRead)) := by
  simp only [exec, execRbRead, State.program]
  by_cases hempty : s.cnt = 0
  · simp only [if_pos hempty]
    rfl
  · have hrdi : ¬ s.cfg.capacity ≤ s.rdi := Nat.not_le.mpr (h.resolve_left hempty)
    simp only [if_neg hempty, if_neg hrdi]
    rfl

/-- Every command whose store address exists runs its lines, from the state in which the core has taken it. -/
theorem exec_eq_next (i : Instr) (h : s.addressExists i) :
    exec i s = .next ((s.begun i).runTasks (s.program i)) := by
  cases i
  case rbWrite chunk => exact exec_rbWrite_eq s chunk h
  case rbRead => exact exec_rbRead_eq s h
  case getReg k =>
    simp only [exec, execGetReg, State.program]
    split <;> rfl
  case setVolume v =>
    simp only [exec, execSetVolume, State.program, State.begun]
    split
    · rfl
    · rw [runTasks_lines]
      rfl
  case setBalance b =>
    simp only [exec, execSetBalance, State.program, State.begun]
    split
    · rfl
    · rw [runTasks_lines]
      rfl
  case stopSong =>
    simp only [State.program, runTasks_append, runTasks_lines]
    rfl
  case begin =>
    simp only [State.program, runTasks_append, runTasks_lines]
    rfl
  case adjRate ppm =>
    simp only [State.program, runTasks_lines]
    rfl
  all_goals rfl

theorem exec_fault (i : Instr) (h : ¬ s.addressExists i) : exec i s = .fault .storeAddress := by
  cases i
  case rbWrite chunk =>
    obtain ⟨hfull, hwri⟩ := not_or.mp h
    exact (if_neg hfull).trans (if_pos (Nat.not_lt.mp hwri))
  case rbRead =>
    obtain ⟨hempty, hrdi⟩ := not_or.mp h
    exact (if_neg hempty).trans (if_pos (Nat.not_lt.mp hrdi))
  all_goals exact absurd trivial h

/-- When a command has a next state, and which. -/
theorem exec_eq_next_iff (i : Instr) (t : State) :
    exec i s = .next t ↔ s.addressExists i ∧ t = (s.begun i).runTasks (s.program i) := by
  by_cases h : s.addressExists i
  · rw [exec_eq_next s i h]
    simp [h, eq_comm]
  · rw [exec_fault s i h]
    simp [h]

@[simp] theorem begun_busy (i : Instr) : (s.begun i).busy = true := by
  cases i
  case setVolume | setBalance =>
    simp only [State.begun]
    split <;> rfl
  all_goals rfl

@[simp] theorem begun_todo (i : Instr) : (s.begun i).todo = [] := by
  cases i
  case setVolume | setBalance =>
    simp only [State.begun]
    split <;> rfl
  all_goals rfl

/-- A command with a next state runs on in it where it has begun: what a fact about the run of its lines says, it says of the next
state. -/
theorem exec_next_eq {s t : State} {i : Instr} (h : exec i s = .next t) : t = (s.begun i).runTasks (s.program i) :=
  ((exec_eq_next_iff s i t).mp h).2

theorem begun_sameHost (i : Instr) : SameHost s (s.begun i) := by
  cases i
  case setVolume | setBalance =>
    simp only [State.begun]
    split <;> exact ⟨rfl, rfl, rfl, rfl⟩
  all_goals exact ⟨rfl, rfl, rfl, rfl⟩

@[simp] theorem begun_resetScript (i : Instr) : (s.begun i).resetScript = s.resetScript :=
  (begun_sameHost s i).resetScript

@[simp] theorem begun_responses (i : Instr) : (s.begun i).responses = s.responses := by
  cases i
  case setVolume | setBalance =>
    simp only [State.begun]
    split <;> rfl
  all_goals rfl

@[simp] theorem begun_busMode (i : Instr) : (s.begun i).busMode = s.busMode := by
  cases i
  case setVolume | setBalance =>
    simp only [State.begun]
    split <;> rfl
  all_goals rfl

@[simp] theorem begun_trace (i : Instr) : (s.begun i).trace = s.trace := by
  cases i
  case setVolume | setBalance =>
    simp only [State.begun]
    split <;> rfl
  all_goals rfl

/-! ### The parts that a command writes (R47) -/

/-- R47: the parts in whose rows a command stands. -/
def instrParts : Instr → List Part
  | .rbReset => [.rdi, .wri, .cnt]
  | .rbWrite _ => [.store, .wri, .cnt, .storePort]
  | .rbRead => [.rdi, .cnt, .storePort]
  | .stopSong => [.modeMir]
  | .begin =>
      [.vol, .bal, .tone, .fill, .modeMir, .busSpd, .rdyPull, .ready, .degraded, .hsFail, .pulse]
  | .setVolume _ => [.vol]
  | .setBalance _ => [.bal]
  | .setTone _ _ _ _ => [.tone]
  | _ => []

theorem begun_same (i : Instr) {e : Part} (h : e ∉ instrParts i) : e.Same s (s.begun i) := by
  have haccept : e.Same s s.accept := e.same_of_registers rfl ⟨[], rfl, by simp⟩
  cases i
  case setVolume v =>
    simp only [State.begun]
    split
    · exact haccept
    · cases e
      case vol => exact absurd List.mem_cons_self h
      all_goals exact haccept
  case setBalance b =>
    simp only [State.begun]
    split
    · exact haccept
    · cases e
      case bal => exact absurd List.mem_cons_self h
      all_goals exact haccept
  case setTone n0 n1 n2 n3 =>
    cases e
    case tone => exact absurd List.mem_cons_self h
    all_goals exact haccept
  all_goals exact haccept

/-- No line of a command writes a part in whose row the command does not stand. -/
theorem parts_program (i : Instr) : (s.program i).flatMap Task.parts ⊆ instrParts i := by
  cases i
  case rbReset => exact List.Subset.refl [Part.rdi, .wri, .cnt]
  case rbWrite chunk =>
    have hstore : [Part.store, .storePort, .wri, .cnt] ⊆ instrParts (.rbWrite chunk) := by simp [instrParts]
    simp only [State.program]
    split
    · exact List.nil_subset _
    · exact hstore
  case rbRead =>
    have hload : [Part.storePort, .rdi, .cnt] ⊆ instrParts .rbRead := by decide
    simp only [State.program]
    split
    · exact List.nil_subset _
    · exact hload
  case stopSong => exact List.Subset.refl [Part.modeMir]
  case begin =>
    have hparts : (s.program .begin).flatMap Task.parts =
      [.vol, .bal, .tone, .fill, .modeMir, .ready, .degraded, .hsFail, .rdyPull, .busSpd, .pulse, .pulse, .rdyPull,
        .busSpd, .hsFail, .fill, .degraded, .ready] := rfl
    rw [hparts]
    decide
  case getReg k =>
    simp only [State.program]
    split <;> exact List.nil_subset _
  case setVolume | setBalance =>
    simp only [State.program]
    split <;> exact List.nil_subset _
  all_goals exact List.nil_subset _

/-- Beginning a command leaves every part in whose row it does not stand, and puts off no line that writes it. -/
theorem exec_same {s t : State} {i : Instr} {e : Part} (hr : s.resetScript = []) (h : exec i s = .next t)
    (he : e ∉ instrParts i) : e.Same s t ∧ e ∉ t.todo.flatMap Task.parts := by
  rw [exec_next_eq h]
  obtain ⟨hsame, htodo⟩ := runTasks_same (begun_todo s i) ((begun_resetScript s i).trans hr)
    (fun hmem => he (parts_program s i hmem))
  exact ⟨(begun_same s i he).trans hsame, htodo⟩

/-- A step of a command in progress, with no hardware reset coming, goes on with it. -/
theorem step_of_busy {s : State} (hr : s.resetScript = []) (hb : s.busy = true) : step s = .next s.resume := by
  simp only [step, hr, hb]

/-- The state of a command in progress that is about to go on: nothing is put off. -/
def State.woken (s : State) : State := { s with todo := [] }

theorem resume_eq_runTasks : s.resume = s.woken.runTasks s.todo := rfl

theorem woken_sameHost : SameHost s s.woken := ⟨rfl, rfl, rfl, rfl⟩

/-- A later step of a command leaves every part that no line put off writes. -/
theorem resume_same {s : State} {e : Part} (hr : s.resetScript = []) (he : e ∉ s.todo.flatMap Task.parts) :
    e.Same s s.resume ∧ e ∉ s.resume.todo.flatMap Task.parts := by
  have hwoken : e.Same s s.woken := e.same_of_registers rfl ⟨[], rfl, by simp⟩
  obtain ⟨hsame, htodo⟩ := runTasks_same (s := s.woken) rfl hr he
  exact ⟨hwoken.trans hsame, htodo⟩

/-! ### One response or a wait (R3, R90, R273) -/

/-- The command stops at no line but its last: with the response, or standing in a wait. -/
theorem resume_answeredOnce {s : State} (hr : s.resetScript = []) (hb : s.busy = true) :
    AnsweredOnce s.responses s.resume :=
  runTasks_answeredOnce (s := s.woken) hb rfl hr s.todo

theorem resume_sameHost {s : State} (hr : s.resetScript = []) : SameHost s s.resume :=
  (woken_sameHost s).trans (runTasks_sameHost (s := s.woken) hr s.todo)

/-- Settles O18: a line sends no response or ends the command, and no line takes a message. -/
theorem busyStepTakesNoMessage : Obligations.BusyStepTakesNoMessage := by
  intro s t hr hb h
  rw [step_of_busy hr hb] at h
  obtain rfl := Host.Outcome.next.inj h
  refine ⟨(resume_sameHost hr).inbox, ?_⟩
  obtain ⟨hbusy, hresp, -⟩ | ⟨hended, -, hresp⟩ := resume_answeredOnce hr hb
  · exact .inl ⟨hbusy, hresp⟩
  · exact .inr ⟨hended, hresp⟩

end Sys2Proof.Machine
end

section
/-!
PROOFS. The shape of a command's lines: they close every transaction they open (R169), the last one answers, and what can stand
behind a wait does (R273). Each is kept by every line, and holds of the lines of every command.
-/

namespace Sys2Proof.Machine

variable (s : State)

/-! ### The transaction mode along the lines -/

/-- The transaction mode after lines, from the mode before them; none where one of them may not stand there. -/
def modesAfter : BusMode → List Task → Option BusMode
  | b, [] => some b
  | b, t :: ts => (t.modeAfter b).bind fun b' => modesAfter b' ts

theorem bracketed_eq_true_iff (b : BusMode) (ts : List Task) : bracketed b ts = true ↔ modesAfter b ts = some .idle := by
  induction ts generalizing b with
  | nil => simp [bracketed, modesAfter]
  | cons t ts ih =>
    unfold bracketed modesAfter
    cases t.modeAfter b with
    | none => simp
    | some b' => exact ih b'

theorem modesAfter_append (b : BusMode) (ts us : List Task) :
    modesAfter b (ts ++ us) = (modesAfter b ts).bind fun b' => modesAfter b' us := by
  induction ts generalizing b with
  | nil => rfl
  | cons t ts ih =>
    simp only [List.cons_append, modesAfter]
    cases t.modeAfter b with
    | none => rfl
    | some b' => exact ih b'

theorem modesAfter_sends (m : Mode) (bs : List Byte) :
    modesAfter (.active m) (lines (bs.map .send)) = some (.active m) := by
  induction bs with
  | nil => rfl
  | cons b bs ih => exact ih

theorem modesAfter_burstLines (src : Source) :
    modesAfter (.active .data) (lines (burstLines src s)) = some (.active .data) := by
  have hsplit : lines (burstLines src s) = lines [.wait] ++
      lines ((src.burst s.fill s.seq.pos (min (src.length - s.seq.pos) s.cfg.subchunkMax)).map .send) ++
      lines [.posAdd (min (src.length - s.seq.pos) s.cfg.subchunkMax)] := by
    simp [burstLines, lines]
  have hwait : modesAfter (.active .data) (lines [.wait]) = some (.active .data) := rfl
  rw [hsplit, modesAfter_append, modesAfter_append, hwait, Option.bind_some, modesAfter_sends]
  rfl

theorem modesAfter_stopRound (c : Cfg) (n : Nat) : modesAfter .idle (stopRound c n) = some .idle := by
  cases n <;> rfl

/-- The lines of a wait that gives up, with whatever lines they leave unrun behind them (R165). -/
def GivesUp (b : BusMode) (ts : List Task) : Prop :=
  (b = .idle ∧ ∃ us, ts = .prim (.raise .busTimeout 0) :: us) ∨
    (b ≠ .idle ∧ ∃ us, ts = .prim .closeBus :: .prim (.raise .busTimeout 0) :: us)

/-- After what a line does at once, either the command has ended outside every transaction, or it gives up, or the lines put off and
the lines left to run lead to the mode `b`. -/
inductive LeadsTo (b : BusMode) (s : State) (ts : List Task) : Prop where
  | ended (hb : s.busy = false) (hm : s.busMode = .idle)
  | givesUp (hb : s.busy = true) (ht : s.todo = []) (h : ∀ us, GivesUp s.busMode (ts ++ us))
  | running (hb : s.busy = true) (h : modesAfter s.busMode (s.todo ++ ts) = some b)

theorem LeadsTo.of_no_lines {b : BusMode} {s : State} (hb : s.busy = true) (ht : s.todo = []) (hm : s.busMode = b) :
    LeadsTo b s [] := .running hb (by rw [ht, hm]; rfl)

/-- The yield either gives up or leaves the wait to go on in its mode. -/
theorem yield_effect_leadsTo {m : Mode} (hb : s.busy = true) (hm : s.busMode = .active m) :
    LeadsTo (.active m) (Prim.yield.effect s) (Prim.yield.expand s) := by
  cases hbound : s.boundReached with
  | false =>
    refine .running hb ?_
    simp only [Prim.effect, Prim.expand, hbound, emit_busMode, hm]
    rfl
  | true =>
    refine .givesUp hb (by simp [Prim.effect, hbound]) fun us => .inr ⟨?_, us, ?_⟩
    · simp [Prim.effect, hm]
    · simp [Prim.expand, hbound, hm, lines]

theorem Prim.effect_leadsTo (p : Prim) {b : BusMode} (hb : s.busy = true) (ht : s.todo = [])
    (h : p.modeAfter s.busMode = some b) : LeadsTo b (p.effect s) (p.expand s) := by
  have hactive : (if s.busMode = .idle then none else some s.busMode) = some b →
      ∃ m, s.busMode = .active m ∧ b = .active m := by
    cases s.busMode with
    | idle => simp
    | active m => simp [eq_comm]
  have hidle : (if s.busMode = .idle then some s.busMode else none) = some b → s.busMode = .idle ∧ b = .idle := by
    cases s.busMode <;> simp [eq_comm]
  cases p
  case openBus m =>
    simp only [Prim.modeAfter, Option.ite_none_right_eq_some, Option.some.injEq] at h
    exact .of_no_lines hb ht h.2
  case closeBus =>
    simp only [Prim.modeAfter, Option.ite_none_left_eq_some, Option.some.injEq] at h
    exact .of_no_lines hb ht h.2
  case wait | pollAgain =>
    obtain ⟨m, hm, rfl⟩ := hactive h
    refine .running hb ?_
    simp only [Prim.effect, Prim.expand, samplePoll_todo, samplePoll_busMode, ht, hm, List.nil_append]
    split <;> rfl
  case yield =>
    obtain ⟨m, hm, rfl⟩ := hactive h
    exact yield_effect_leadsTo s hb hm
  case send | sendReadHi | sendReadLo | recvHi | recvLo =>
    obtain ⟨m, hm, rfl⟩ := hactive h
    exact .of_no_lines hb ht hm
  case resetAssert | resetRelease | sampleReady =>
    obtain ⟨hm, rfl⟩ := hidle h
    exact .of_no_lines hb ht hm
  case raise status info => exact .ended (raise_busy s status info) (raise_busMode s status info)
  case answer a => cases a <;> exact .ended rfl (hidle h).1
  all_goals exact .of_no_lines hb ht (Option.some.inj h)

theorem Task.effect_leadsTo (t : Task) {b : BusMode} (hb : s.busy = true) (ht : s.todo = [])
    (h : t.modeAfter s.busMode = some b) : LeadsTo b (t.effect s) (t.expand s) := by
  have hidle : (if s.busMode = .idle then some s.busMode else none) = some b → s.busMode = .idle ∧ b = .idle := by
    cases s.busMode <;> simp [eq_comm]
  have hloop : ∀ (us : List Task) (q : Sequencer), modesAfter s.busMode us = some b → LeadsTo b { s with seq := q } us :=
    fun us q hus => .running hb (by simpa [ht] using hus)
  cases t with
  | prim p => exact p.effect_leadsTo s hb ht h
  | bursts n src =>
    obtain ⟨hm, rfl⟩ : s.busMode = .active .data ∧ b = .active .data := by
      simp only [Task.modeAfter, Option.ite_none_right_eq_some, Option.some.injEq] at h
      exact ⟨h.1, h.2 ▸ h.1⟩
    refine hloop _ s.seq ?_
    rw [hm]
    cases n with
    | zero => rfl
    | succ n =>
      simp only [Task.expand]
      split
      · rw [modesAfter_append, modesAfter_burstLines]
        rfl
      · rfl
  | sweep n delta =>
    obtain ⟨hm, rfl⟩ := hidle h
    refine hloop _ s.seq ?_
    rw [hm]
    cases n with
    | zero => rfl
    | succ n =>
      simp only [Task.expand]
      split <;> rfl
  | lowTest =>
    obtain ⟨hm, rfl⟩ := hidle h
    refine hloop _ s.seq ?_
    rw [hm]
    simp only [Task.expand]
    split <;> rfl
  | bringUpChain =>
    obtain ⟨hm, rfl⟩ := hidle h
    refine hloop _ s.seq ?_
    rw [hm]
    simp only [Task.expand]
    split <;> rfl
  | stopLoop n =>
    obtain ⟨hm, rfl⟩ := hidle h
    exact hloop _ s.seq (hm ▸ modesAfter_stopRound s.cfg n)
  | cancelTest n =>
    obtain ⟨hm, rfl⟩ := hidle h
    simp only [Task.effect, Task.expand]
    split
    · exact hloop _ _ (hm ▸ modesAfter_stopRound s.cfg n)
    · refine hloop _ s.seq ?_
      rw [hm]
      rfl
  | writes addr values =>
    obtain ⟨hm, rfl⟩ := hidle h
    refine hloop _ s.seq ?_
    rw [hm]
    cases values <;> rfl
  | records n words =>
    obtain ⟨hm, rfl⟩ := hidle h
    cases n with
    | zero => exact hloop [] s.seq (congrArg some hm)
    | succ n =>
      simp only [Task.effect, Task.expand]
      cases recordHead words <;> refine hloop _ _ ?_ <;> rw [hm] <;> rfl

/-! ### Every command closes what it opens (R169) -/

/-- The command has ended outside every transaction, or gives up, or its lines close what they open and end idle. -/
def Bracketing (s : State) (ts : List Task) : Prop := LeadsTo .idle s ts

theorem Bracketing.line {s : State} {t : Task} {ts : List Task} (h : Bracketing s (t :: ts)) (hb : s.busy = true)
    (ht : s.todo = []) : Bracketing (t.effect s) (t.expand s ++ ts) := by
  cases h with
  | ended hended hm => exact absurd hb (by simp [hended])
  | givesUp _ _ h =>
    obtain ⟨-, us, hus⟩ | ⟨-, us, hus⟩ := h []
    · obtain ⟨rfl, -⟩ := List.cons.inj hus
      exact .ended (raise_busy s _ _) (raise_busMode s _ _)
    · rw [List.cons_append, List.append_nil] at hus
      obtain ⟨rfl, rfl⟩ := List.cons.inj hus
      exact .givesUp hb ht fun vs => .inl ⟨rfl, _, rfl⟩
  | running _ h =>
    rw [ht, List.nil_append, modesAfter] at h
    obtain ⟨b, hmode, hrest⟩ := Option.bind_eq_some_iff.mp h
    cases t.effect_leadsTo s hb ht hmode with
    | ended hb hm => exact .ended hb hm
    | givesUp hb ht h => exact .givesUp hb ht fun us => by simpa using h (ts ++ us)
    | running hb h =>
      refine .running hb ?_
      rw [← List.append_assoc, modesAfter_append, h]
      exact hrest

theorem Bracketing.putOff {s : State} {ts : List Task} (h : Bracketing s ts) (hb : s.busy = true) (ht : s.todo ≠ []) :
    Bracketing (s.putOff ts) [] := by
  cases h with
  | ended hended hm => exact absurd hb (by simp [hended])
  | givesUp _ hnil h => exact absurd hnil ht
  | running hb h => exact .running hb (by simpa [State.putOff] using h)

theorem Bracketing.of_ended {s : State} {ts us : List Task} (h : Bracketing s ts) (hb : s.busy = false) : Bracketing s us := by
  cases h with
  | ended hb hm => exact .ended hb hm
  | givesUp hbusy _ _ => exact absurd hbusy (by simp [hb])
  | running hbusy _ => exact absurd hbusy (by simp [hb])

/-- The next line may stand where it stands. -/
theorem Bracketing.modeAfter {s : State} {t : Task} {ts : List Task} (h : Bracketing s (t :: ts)) (hb : s.busy = true)
    (ht : s.todo = []) : ∃ b, t.modeAfter s.busMode = some b := by
  cases h with
  | ended hended hm => exact absurd hb (by simp [hended])
  | givesUp _ _ h =>
    obtain ⟨hm, us, hus⟩ | ⟨hm, us, hus⟩ := h []
    · obtain ⟨rfl, -⟩ := List.cons.inj hus
      exact ⟨_, if_pos hm⟩
    · obtain ⟨rfl, -⟩ := List.cons.inj hus
      exact ⟨_, if_neg hm⟩
  | running _ h =>
    rw [ht, List.nil_append, modesAfter] at h
    obtain ⟨b, hmode, -⟩ := Option.bind_eq_some_iff.mp h
    exact ⟨b, hmode⟩

theorem Bracketing.runTasks {s : State} {ts : List Task} (hr : s.resetScript = []) (h : Bracketing s ts) :
    Bracketing (s.runTasks ts) [] :=
  runTasks_invariant (fun _ _ _ hb ht _ h => h.line hb ht) (fun _ _ hb h => h.of_ended hb)
    (fun _ _ hb ht h => h.putOff hb ht) hr h

theorem Bracketing.idle_of_ended {s : State} {ts : List Task} (h : Bracketing s ts) (hb : s.busy = false) :
    s.busMode = .idle := by
  cases h with
  | ended _ hm => exact hm
  | givesUp hbusy _ _ => exact absurd hbusy (by simp [hb])
  | running hbusy _ => exact absurd hbusy (by simp [hb])

theorem Bracketing.bracketed_todo {s : State} (h : Bracketing s []) (hb : s.busy = true) :
    bracketed s.busMode s.todo = true := by
  cases h with
  | ended hended _ => exact absurd hb (by simp [hended])
  | givesUp _ _ h => obtain ⟨-, us, hus⟩ | ⟨-, us, hus⟩ := h [] <;> cases hus
  | running _ h => exact (bracketed_eq_true_iff _ _).mpr (by simpa using h)

/-- The lines of every command close what they open. -/
theorem bracketing_program (i : Instr) (hi : s.busMode = .idle) : Bracketing (s.begun i) (s.program i) := by
  have hmodes : modesAfter .idle (s.program i) = some .idle := by
    cases i
    case getReg k =>
      simp only [State.program]
      split <;> rfl
    case rbWrite | rbRead | setVolume | setBalance =>
      simp only [State.program]
      split <;> rfl
    all_goals rfl
  exact .running (begun_busy s i) (by rw [begun_busMode, begun_todo, hi]; exact hmodes)

/-! ### The last line answers (R3, R90) -/

theorem endsAnswered_eq (ts : List Task) : endsAnswered ts = ts.getLast?.any Task.ends := by
  induction ts with
  | nil => rfl
  | cons t ts ih =>
    cases ts with
    | nil => rfl
    | cons u us => rw [endsAnswered, ih, List.getLast?_cons_cons]

theorem endsAnswered_append (ts : List Task) {us : List Task} (h : us ≠ []) :
    endsAnswered (ts ++ us) = endsAnswered us := by
  rw [endsAnswered_eq, endsAnswered_eq, List.getLast?_append_of_ne_nil ts h]

theorem ne_nil_of_endsAnswered {ts : List Task} (h : endsAnswered ts = true) : ts ≠ [] := by
  rintro rfl
  cases h

theorem endsAnswered_stopRound (c : Cfg) (n : Nat) : endsAnswered (stopRound c n) = true := by
  cases n <;> rfl

/-- A line with which a command ends has ended it, or leaves lines to run the last of which ends it. -/
theorem Task.ends_expand (t : Task) (h : t.ends = true) :
    (t.effect s).busy = false ∨ endsAnswered (t.expand s) = true := by
  cases t with
  | prim p =>
    cases p
    case answer a => exact .inl (by cases a <;> rfl)
    case raise status info => exact .inl (raise_busy s status info)
    all_goals cases h
  | stopLoop n => exact .inr (endsAnswered_stopRound s.cfg n)
  | cancelTest n =>
    right
    simp only [Task.expand]
    split
    · exact endsAnswered_stopRound s.cfg n
    · rfl
  | _ => cases h

/-- The command has ended, or the last of the lines put off and left to run ends it. -/
def Answering (s : State) (ts : List Task) : Prop := s.busy = true → endsAnswered (s.todo ++ ts) = true

theorem Answering.line {s : State} {t : Task} {ts : List Task} (h : Answering s (t :: ts)) (hb : s.busy = true)
    (ht : s.todo = []) : Answering (t.effect s) (t.expand s ++ ts) := by
  intro hrun
  have hend : endsAnswered (t :: ts) = true := by simpa [ht] using h hb
  rw [← List.append_assoc]
  by_cases hts : ts = []
  · subst hts
    obtain hended | hexp := t.ends_expand s hend
    · exact absurd hrun (by simp [hended])
    · rw [List.append_nil, endsAnswered_append _ (ne_nil_of_endsAnswered hexp)]
      exact hexp
  · rw [endsAnswered_append _ hts]
    rwa [← List.singleton_append, endsAnswered_append _ hts] at hend

theorem Answering.runTasks {s : State} {ts : List Task} (hr : s.resetScript = []) (h : Answering s ts) :
    Answering (s.runTasks ts) [] :=
  runTasks_invariant (fun _ _ _ hb ht _ h => h.line hb ht) (fun _ _ hb _ hf => absurd hf (by simp [hb]))
    (fun _ _ hb _ h _ => by simpa [State.putOff] using h hb) hr h

/-- The last line of every command answers. -/
theorem endsAnswered_program (i : Instr) : endsAnswered (s.program i) = true := by
  cases i
  case getReg k =>
    simp only [State.program]
    split <;> rfl
  case rbWrite | rbRead | setVolume | setBalance =>
    simp only [State.program]
    split <;> rfl
  all_goals rfl

theorem answering_program (i : Instr) : Answering (s.begun i) (s.program i) := fun _ => by
  rw [begun_todo]
  exact endsAnswered_program s i

/-- Settles O17: the lines of a command are run to one response, or to a wait; they are not all run without a response, since the last
one answers. -/
theorem commandAnswersOnceOrWaits : Obligations.CommandAnswersOnceOrWaits := by
  intro i s t hr h
  obtain rfl := exec_next_eq h
  have hr' : (s.begun i).resetScript = [] := (begun_resetScript s i).trans hr
  refine ⟨(begun_sameHost s i).trans (runTasks_sameHost hr' _) |>.inbox, ?_⟩
  have hone := runTasks_answeredOnce (begun_busy s i) (begun_todo s i) hr' (s.program i)
  rw [begun_responses] at hone
  obtain ⟨hbusy, hresp, hnil | hwaits⟩ | hended := hone
  · have hanswer := (answering_program s i).runTasks hr' hbusy
    rw [hnil] at hanswer
    cases hanswer
  · exact .inr ⟨hbusy, hwaits, hresp⟩
  · exact .inl hended

/-! ### The trace is bracketed (R169) -/

theorem Prim.effect_traceMode (p : Prim) {b : BusMode} (htrace : traceMode s.trace = some s.busMode)
    (h : p.modeAfter s.busMode = some b) : traceMode (p.effect s).trace = some (p.effect s).busMode := by
  have hactive : (if s.busMode = .idle then none else some s.busMode) = some b → ∃ m, s.busMode = .active m := by
    cases s.busMode with
    | idle => simp
    | active m => simp
  cases p
  case openBus m =>
    simp only [Prim.modeAfter, Option.ite_none_right_eq_some] at h
    simp [Prim.effect, Prim.run, traceMode, htrace, h.1]
  case closeBus =>
    obtain ⟨m, hm⟩ : ∃ m, s.busMode = .active m := by
      cases hm : s.busMode with
      | idle => simp [Prim.modeAfter, hm] at h
      | active m => exact ⟨m, rfl⟩
    simp [Prim.effect, Prim.run, traceMode, htrace, hm]
  case yield | send | sendReadHi | sendReadLo | recvHi | recvLo =>
    obtain ⟨m, hm⟩ := hactive h
    simp [Prim.effect, Prim.run, traceMode, htrace, hm]
  case setPullup b =>
    simp only [Prim.effect, Prim.run, State.setPullup]
    split
    · exact htrace
    · split <;> exact htrace
  case raise status info =>
    have hm : s.busMode = .idle := by
      simp only [Prim.modeAfter, Option.ite_none_right_eq_some] at h
      exact h.1
    simp only [Prim.effect, Prim.run, raise_of_idle s status info hm]
    exact htrace
  case answer a => cases a <;> exact htrace
  all_goals exact htrace

theorem Task.effect_traceMode (t : Task) {b : BusMode} (htrace : traceMode s.trace = some s.busMode)
    (h : t.modeAfter s.busMode = some b) : traceMode (t.effect s).trace = some (t.effect s).busMode := by
  obtain ⟨p, rfl⟩ | ⟨q, hq⟩ := t.effect_loop s
  · exact p.effect_traceMode s htrace h
  · rw [hq]
    exact htrace

theorem Bracketing.traceMode {s : State} {ts : List Task} (hr : s.resetScript = []) (h : Bracketing s ts)
    (htrace : traceMode s.trace = some s.busMode) :
    Machine.traceMode (s.runTasks ts).trace = some (s.runTasks ts).busMode := by
  refine runTasks_invariant (I := fun u us => Bracketing u us ∧ Machine.traceMode u.trace = some u.busMode) ?_ ?_ ?_ hr
    ⟨h, htrace⟩ |>.2
  · rintro u t us hb ht _ ⟨h, htrace⟩
    obtain ⟨b, hmode⟩ := h.modeAfter hb ht
    exact ⟨h.line hb ht, t.effect_traceMode u htrace hmode⟩
  · exact fun u us hb ⟨h, htrace⟩ => ⟨h.of_ended hb, htrace⟩
  · exact fun u us hb ht ⟨h, htrace⟩ => ⟨h.putOff hb ht, htrace⟩

end Sys2Proof.Machine
end

section
/-!
PROOFS. A hardware reset inside a command (70_reset_and_hazards.md R311): a reset that is coming changes nothing before it strikes, it
can strike before every line, and a line shows at most one event and never one together with the response.
-/

namespace Sys2Proof.Machine

variable (s : State)

/-! ### A reset to come changes nothing of a line -/

@[simp] theorem withResets_busy (rs : List Nat) : (s.withResets rs).busy = s.busy := rfl
@[simp] theorem withResets_resetScript (rs : List Nat) : (s.withResets rs).resetScript = rs := rfl

theorem raise_withResets (rs : List Nat) (st : Status) (v : Word) :
    (s.withResets rs).raise st v = (s.raise st v).withResets rs := by
  by_cases hm : s.busMode = .idle
  · rw [raise_of_idle s st v hm, raise_of_idle (s.withResets rs) st v hm]
    rfl
  · rw [raise_of_active s st v hm, raise_of_active (s.withResets rs) st v hm]
    rfl

theorem Prim.effect_withResets (p : Prim) (rs : List Nat) : p.effect (s.withResets rs) = (p.effect s).withResets rs := by
  cases p
  case raise status info => exact raise_withResets s rs status info
  case answer a => cases a <;> rfl
  all_goals rfl

theorem Task.effect_withResets (t : Task) (rs : List Nat) : t.effect (s.withResets rs) = (t.effect s).withResets rs := by
  have hcancel : (s.withResets rs).cancelSet = s.cancelSet := rfl
  cases t with
  | prim p => exact p.effect_withResets s rs
  | cancelTest n =>
    simp only [Task.effect, hcancel]
    split <;> rfl
  | records n words =>
    cases n with
    | zero => rfl
    | succ n =>
      simp only [Task.effect]
      split <;> rfl
  | _ => rfl

theorem Task.expand_withResets (t : Task) (rs : List Nat) : t.expand (s.withResets rs) = t.expand s := by
  cases t with
  | prim p => cases p <;> rfl
  | bursts n src => cases n <;> rfl
  | sweep n delta => cases n <;> rfl
  | records n words => cases n <;> rfl
  | writes addr values => cases values <;> rfl
  | _ => rfl

/-! ### A reset that strikes -/

/-- A reset that strikes before the first line has struck after no event. -/
theorem resetHit_hardwareReset (rest : List Nat) : ResetHit s (s.withResets (0 :: rest)).hardwareReset rest [] where
  rdi := rfl
  wri := rfl
  cnt := rfl
  vol := rfl
  bal := rfl
  tone := rfl
  fill := rfl
  modeMir := rfl
  busMode := rfl
  busSpd := rfl
  rdyPull := rfl
  ready := rfl
  degraded := rfl
  hsFail := rfl
  busy := rfl
  todo := rfl
  selCtl := rfl
  selDat := rfl
  cfg := rfl
  resets := rfl
  resetScript := rfl
  inbox := rfl
  responses := rfl
  events := (List.append_nil _).symm

/-- A reset that has struck after `s` has struck after any state before it with the same responses. -/
theorem ResetHit.of_later {s s' t : State} {rest : List Nat} {evs : List Event} (h : ResetHit s' t rest evs) {es : List Event}
    (hhost : SameHost s s') (hresp : s'.responses = s.responses) (hevents : s'.events = s.events ++ es) :
    ResetHit s t rest (es ++ evs) :=
  { h with
    cfg := h.cfg.trans hhost.cfg
    resets := h.resets.trans (congrArg (· + 1) hhost.resets)
    inbox := h.inbox.trans hhost.inbox
    responses := h.responses.trans hresp
    events := by rw [h.events, hevents, List.append_assoc] }

/-- What a hardware reset coming after any number of lines does to the run of `ts` from `s`, in which `evs` are shown. -/
structure ResetStrikes (s : State) (ts : List Task) (evs : List Event) : Prop where
  events : (s.runTasks ts).events = s.events ++ evs
  comesOrStrikes : ∀ n rest,
    (∃ m, m ≤ n ∧ (s.withResets (n :: rest)).runTasks ts = (s.runTasks ts).withResets (m :: rest)) ∨
      ∃ a b, evs = a ++ b ∧ ResetHit s ((s.withResets (n :: rest)).runTasks ts) rest a ∧
        ((s.withResets (n :: rest)).runTasks ts).store = []
  strikesBefore : ∀ a b, evs = a ++ b → b ≠ [] ∨ (s.busy = true ∧ (s.runTasks ts).busy = false) →
    ∃ n, ∀ rest, ResetHit s ((s.withResets (n :: rest)).runTasks ts) rest a
  comesAfter : ∃ n, ∀ rest, (s.withResets (n :: rest)).runTasks ts = (s.runTasks ts).withResets (0 :: rest)

/-- Where no line is run, the reset is still to come. -/
theorem resetStrikes_of_no_line {s : State} {ts : List Task} (hevents : (s.runTasks ts).trace = s.trace)
    (hbusy : (s.runTasks ts).busy = s.busy)
    (hcomes : ∀ rs, (s.withResets rs).runTasks ts = (s.runTasks ts).withResets rs) : ResetStrikes s ts [] where
  events := by simp [State.events, hevents]
  comesOrStrikes n rest := .inl ⟨n, le_rfl, hcomes _⟩
  strikesBefore a b hab h := by
    obtain ⟨-, rfl⟩ := List.append_eq_nil_iff.mp hab.symm
    obtain hne | ⟨hrun, hend⟩ := h
    · exact absurd rfl hne
    · exact absurd (hbusy.symm.trans hend) (by simp [hrun])
  comesAfter := ⟨0, fun _ => hcomes _⟩

/-- With a reset coming after the next line, the line is run and the reset is one line nearer. -/
theorem runTasks_withResets_succ {s : State} (t : Task) (ts : List Task) (hb : s.busy = true) (ht : s.todo = [])
    (n : Nat) (rest : List Nat) :
    (s.withResets ((n + 1) :: rest)).runTasks (t :: ts) =
      ((t.effect s).withResets (n :: rest)).runTasks (t.expand s ++ ts) := by
  rw [runTasks_line_before_reset s t ts n rest hb ht, t.effect_withResets, t.expand_withResets]

/-- With a reset due, the first line is not run. -/
theorem runTasks_withResets_zero {s : State} (t : Task) (ts : List Task) (hb : s.busy = true) (ht : s.todo = [])
    (rest : List Nat) : (s.withResets (0 :: rest)).runTasks (t :: ts) = (s.withResets (0 :: rest)).hardwareReset :=
  runTasks_reset (s.withResets (0 :: rest)) t ts rest hb ht rfl

/-- A line that ends the command outside every transaction shows no event. -/
theorem Prim.effect_trace_of_ended (p : Prim) {b : BusMode} (hb : s.busy = true) (h : p.modeAfter s.busMode = some b)
    (hended : (p.effect s).busy = false) : (p.effect s).trace = s.trace := by
  cases p
  case raise status info =>
    have hm : s.busMode = .idle := by
      simp only [Prim.modeAfter, Option.ite_none_right_eq_some] at h
      exact h.1
    simp only [Prim.effect, Prim.run, raise_of_idle s status info hm]
    rfl
  case answer a => cases a <;> rfl
  all_goals exact absurd (hb.symm.trans hended) (by decide)

theorem Task.effect_trace_of_ended (t : Task) {b : BusMode} (hb : s.busy = true) (h : t.modeAfter s.busMode = some b)
    (hended : (t.effect s).busy = false) : (t.effect s).trace = s.trace := by
  obtain ⟨p, rfl⟩ | ⟨q, hq⟩ := t.effect_loop s
  · exact p.effect_trace_of_ended s hb h hended
  · rw [hq]

/-- A line shows at most one event. -/
theorem Task.effect_events (t : Task) : ∃ es, (t.effect s).events = s.events ++ es ∧ es.length ≤ 1 := by
  obtain ⟨p, rfl⟩ | ⟨q, hq⟩ := t.effect_loop s
  · obtain ⟨es, htrace, hlen, -⟩ := p.effect_trace s
    exact ⟨es.reverse, by rw [Task.effect, State.events, htrace, List.reverse_append, State.events], by simpa using hlen⟩
  · exact ⟨[], by simp [hq, State.events], Nat.zero_le 1⟩

/-- The last line: a reset strikes before it or comes after it. -/
theorem resetStrikes_of_last_line {s : State} {t : Task} {ts : List Task} (hb : s.busy = true) (ht : s.todo = [])
    (hr : s.resetScript = []) (hended : (t.effect s).busy = false) (htrace : (t.effect s).trace = s.trace) :
    ResetStrikes s (t :: ts) [] := by
  have hrun : s.runTasks (t :: ts) = t.effect s := by
    rw [runTasks_line s t ts hb ht hr, runTasks_ended _ _ hended]
  have hcomes : ∀ n rest, (s.withResets ((n + 1) :: rest)).runTasks (t :: ts) =
      (s.runTasks (t :: ts)).withResets (n :: rest) := fun n rest => by
    rw [runTasks_withResets_succ t ts hb ht, hrun, runTasks_ended ((t.effect s).withResets (n :: rest)) _ hended]
  have hstrikes : ∀ rest, ResetHit s ((s.withResets (0 :: rest)).runTasks (t :: ts)) rest [] := fun rest => by
    rw [runTasks_withResets_zero t ts hb ht]
    exact resetHit_hardwareReset s rest
  constructor
  case events => simp [hrun, State.events, htrace]
  case comesOrStrikes =>
    intro n rest
    cases n with
    | zero => exact .inr ⟨[], [], rfl, hstrikes rest, by rw [runTasks_withResets_zero t ts hb ht]; rfl⟩
    | succ n => exact .inl ⟨n, Nat.le_succ n, hcomes n rest⟩
  case strikesBefore =>
    intro a b hab _
    obtain ⟨rfl, -⟩ := List.append_eq_nil_iff.mp hab.symm
    exact ⟨0, hstrikes⟩
  case comesAfter => exact ⟨1, hcomes 0⟩

/-- A line after which the command is still in progress: a reset strikes before it, or does to the lines after it what it does to
them. -/
theorem ResetStrikes.line {s : State} {t : Task} {ts : List Task} {evs es : List Event} (hb : s.busy = true)
    (ht : s.todo = []) (hr : s.resetScript = []) (hrun : (t.effect s).busy = true)
    (hevents : (t.effect s).events = s.events ++ es) (hlen : es.length ≤ 1)
    (h : ResetStrikes (t.effect s) (t.expand s ++ ts) evs) : ResetStrikes s (t :: ts) (es ++ evs) := by
  have hresp : (t.effect s).responses = s.responses := by
    obtain ⟨-, hresp, -⟩ | ⟨hended, -⟩ := t.effect_answeredOnce s hb ht
    · exact hresp
    · exact absurd hrun (by simp [hended])
  have hlater : ∀ {u rest a}, ResetHit (t.effect s) u rest a → ResetHit s u rest (es ++ a) := fun hhit =>
    hhit.of_later (t.effect_sameHost s) hresp hevents
  have hstrikes : ∀ rest, ResetHit s ((s.withResets (0 :: rest)).runTasks (t :: ts)) rest [] := fun rest => by
    rw [runTasks_withResets_zero t ts hb ht]
    exact resetHit_hardwareReset s rest
  constructor
  case events => rw [runTasks_line s t ts hb ht hr, h.events, hevents, List.append_assoc]
  case comesOrStrikes =>
    intro n rest
    cases n with
    | zero => exact .inr ⟨[], es ++ evs, rfl, hstrikes rest, by rw [runTasks_withResets_zero t ts hb ht]; rfl⟩
    | succ n =>
      rw [runTasks_withResets_succ t ts hb ht, runTasks_line s t ts hb ht hr]
      obtain ⟨m, hm, hcomes⟩ | ⟨a, b, rfl, hhit, hstore⟩ := h.comesOrStrikes n rest
      · exact .inl ⟨m, Nat.le_succ_of_le hm, hcomes⟩
      · exact .inr ⟨es ++ a, b, (List.append_assoc ..).symm, hlater hhit, hstore⟩
  case strikesBefore =>
    intro a b hab hbefore
    cases a with
    | nil => exact ⟨0, hstrikes⟩
    | cons e a =>
      obtain ⟨a', ha, hevs⟩ : ∃ a', e :: a = es ++ a' ∧ evs = a' ++ b := by
        match es, hlen with
        | [], _ => exact ⟨e :: a, rfl, hab⟩
        | [e'], _ =>
          obtain ⟨rfl, hevs⟩ := List.cons.inj hab
          exact ⟨a, rfl, hevs⟩
      rw [runTasks_line s t ts hb ht hr] at hbefore
      obtain ⟨n, hhit⟩ := h.strikesBefore a' b hevs (hbefore.imp_right fun hend => ⟨hrun, hend.2⟩)
      refine ⟨n + 1, fun rest => ?_⟩
      rw [runTasks_withResets_succ t ts hb ht, ha]
      exact hlater (hhit rest)
  case comesAfter =>
    obtain ⟨n, hcomes⟩ := h.comesAfter
    refine ⟨n + 1, fun rest => ?_⟩
    rw [runTasks_withResets_succ t ts hb ht, runTasks_line s t ts hb ht hr, hcomes]

/-- A hardware reset can strike at any time inside the run of lines that close what they open. -/
theorem exists_resetStrikes {s : State} {ts : List Task} (hr : s.resetScript = []) (h : Bracketing s ts) :
    ∃ evs, ResetStrikes s ts evs := by
  revert hr h
  refine lines_induction
    (P := fun s ts => s.resetScript = [] → Bracketing s ts → ∃ evs, ResetStrikes s ts evs) ?_ ?_ ?_ ?_ s ts
  · intro s ts hb _ _
    have hrun := runTasks_ended s ts hb
    exact ⟨[], resetStrikes_of_no_line (by rw [hrun]) (by rw [hrun]) fun rs => by
      rw [hrun, runTasks_ended (s.withResets rs) ts hb]⟩
  · intro s ts hb ht _ _
    have hrun := runTasks_waiting s ts hb ht
    exact ⟨[], resetStrikes_of_no_line (by rw [hrun]; rfl) (by rw [hrun]; rfl) fun rs => by
      rw [hrun, runTasks_waiting (s.withResets rs) ts hb ht]
      rfl⟩
  · exact fun s _ _ _ _ => ⟨[], resetStrikes_of_no_line rfl rfl fun _ => rfl⟩
  · intro s t ts hb ht ih hr h
    obtain ⟨b, hmode⟩ := h.modeAfter hb ht
    cases hrun : (t.effect s).busy with
    | false =>
      exact ⟨[], resetStrikes_of_last_line hb ht hr hrun (t.effect_trace_of_ended s hb hmode hrun)⟩
    | true =>
      obtain ⟨es, hevents, hlen⟩ := t.effect_events s
      obtain ⟨evs, hevs⟩ := ih ((t.effect_sameHost s).resetScript.trans hr) (h.line hb ht)
      exact ⟨es ++ evs, hevs.line hb ht hr hrun hevents hlen⟩

/-- A function that runs lines, after `d` micro-operations of its own, can be struck at any time. -/
theorem resetStrikesAnywhere_of_runTasks {f : State → Host.Outcome State Fault Refusal} {s s' : State} {ts : List Task}
    {d : Nat} (hr : s'.resetScript = []) (hb : s'.busy = true) (h : Bracketing s' ts) (hhost : SameHost s s')
    (hresp : s'.responses = s.responses) (htrace : s'.trace = s.trace)
    (hf : ∀ n rest, f (s.withResets (n :: rest)) = .next ((s'.withResets ((n - d) :: rest)).runTasks ts)) :
    ResetStrikesAnywhere f s (s'.runTasks ts) := by
  obtain ⟨evs, hevs⟩ := exists_resetStrikes hr h
  have hevents : s'.events = s.events ++ [] := by simp [State.events, htrace]
  have hearlier : ∀ {u rest a}, ResetHit s' u rest a → ResetHit s u rest a := fun hhit => by
    simpa using hhit.of_later hhost hresp hevents
  refine ⟨evs, by simpa [hevents] using hevs.events, fun n rest => ⟨_, hf n rest, ?_⟩, fun a b hab hbefore => ?_, ?_⟩
  · obtain ⟨m, hm, hcomes⟩ | ⟨a, b, hab, hhit, -⟩ := hevs.comesOrStrikes (n - d) rest
    · exact .inl ⟨m, hm.trans (Nat.sub_le n d), hcomes⟩
    · exact .inr ⟨a, b, hab, hearlier hhit⟩
  · obtain ⟨n, hhit⟩ := hevs.strikesBefore a b hab (hbefore.imp_right fun hend => ⟨hb, hend⟩)
    refine ⟨n + d, fun rest => ⟨_, hf (n + d) rest, ?_⟩⟩
    rw [Nat.add_sub_cancel]
    exact hearlier (hhit rest)
  · obtain ⟨n, hcomes⟩ := hevs.comesAfter
    refine ⟨n + d, fun rest => (hf (n + d) rest).trans (congrArg Host.Outcome.next ?_)⟩
    rw [Nat.add_sub_cancel]
    exact hcomes rest

/-! ### Commands, later steps and messages -/

theorem begun_withResets (i : Instr) (rs : List Nat) : (s.withResets rs).begun i = (s.begun i).withResets rs := by
  cases i
  case setVolume | setBalance =>
    simp only [State.begun]
    split <;> rfl
  all_goals rfl

theorem program_withResets (i : Instr) (rs : List Nat) : (s.withResets rs).program i = s.program i := by
  cases i
  case setVolume | setBalance =>
    simp only [State.program, begun_withResets]
    rfl
  all_goals rfl

/-- A command runs its lines also with a reset coming. -/
theorem exec_withResets {i : Instr} (h : s.addressExists i) (rs : List Nat) :
    exec i (s.withResets rs) = .next (((s.begun i).withResets rs).runTasks (s.program i)) := by
  have h' : (s.withResets rs).addressExists i := by cases i <;> exact h
  rw [exec_eq_next _ i h', begun_withResets, program_withResets]

theorem resetStrikesAnywhere_exec {i : Instr} {s t : State} (hr : s.resetScript = []) (hi : s.busMode = .idle)
    (h : exec i s = .next t) : ResetStrikesAnywhere (exec i) s t := by
  obtain ⟨haddr, rfl⟩ := (exec_eq_next_iff s i t).mp h
  exact resetStrikesAnywhere_of_runTasks (d := 0) ((begun_resetScript s i).trans hr) (begun_busy s i)
    (bracketing_program s i hi) (begun_sameHost s i) (begun_responses s i) (begun_trace s i)
    fun n rest => exec_withResets s haddr (n :: rest)

/-- A command in progress between steps stands in a wait from which it closes its transaction. -/
theorem State.Inv.bracketing_woken {s : State} (hinv : s.Inv) (hb : s.busy = true) : Bracketing s.woken s.todo := by
  obtain ⟨-, -, hbr, -⟩ := hinv.waiting hb
  exact .running hb ((bracketed_eq_true_iff _ _).mp hbr)

theorem resetStrikesAnywhere_step {s t : State} (hinv : s.Inv) (hb : s.busy = true) (hr : s.resetScript = [])
    (h : step s = .next t) : ResetStrikesAnywhere step s t := by
  rw [step_of_busy hr hb] at h
  obtain rfl := Host.Outcome.next.inj h
  obtain ⟨⟨us, hus⟩, -⟩ := hinv.waiting hb
  refine resetStrikesAnywhere_of_runTasks (d := 0) (s' := s.woken) hr hb (hinv.bracketing_woken hb) (woken_sameHost s)
    rfl rfl fun n rest => ?_
  cases n with
  | zero =>
    rw [hus, Nat.zero_sub, runTasks_withResets_zero (s := s.woken) _ us hb rfl]
    simp only [step, withResets_resetScript]
    rfl
  | succ n =>
    simp only [step, withResets_resetScript, withResets_busy, hb]
    rfl

theorem takeMessage_of_decode {m : Message} {i : Instr} (hm : decode m = .ok i) (ms : List Message) :
    takeMessage m ms s = exec i { s.tick with inbox := ms } := by
  simp only [takeMessage, hm]

theorem takeMessage_of_illegal {m : Message} {e : DecodeError} (hm : decode m = .error e) (ms : List Message) :
    takeMessage m ms s =
      .next (State.runTasks (State.accept { s.tick with inbox := ms }) (lines [.raise .illegalCommand 0])) := by
  simp only [takeMessage, hm]
  rfl

/-- The line with which a message that spells no command is answered. -/
theorem bracketing_illegal (hi : s.busMode = .idle) : Bracketing s.accept (lines [.raise .illegalCommand 0]) :=
  .running rfl (by simp [lines, modesAfter, Task.modeAfter, Prim.modeAfter, hi])

theorem resetStrikesAnywhere_takeMessage {m : Message} {s t : State} (hr : s.resetScript = []) (hi : s.busMode = .idle)
    (h : takeMessage m s.inbox s = .next t) : ResetStrikesAnywhere (takeMessage m s.inbox) s t := by
  have htick : { s.tick with inbox := s.inbox } = s := by rw [tick_of_none s hr]
  cases hm : decode m with
  | ok i =>
    rw [takeMessage_of_decode s hm, htick] at h
    obtain ⟨haddr, rfl⟩ := (exec_eq_next_iff s i t).mp h
    refine resetStrikesAnywhere_of_runTasks (d := 1) ((begun_resetScript s i).trans hr) (begun_busy s i)
      (bracketing_program s i hi) (begun_sameHost s i) (begun_responses s i) (begun_trace s i) fun n rest => ?_
    rw [takeMessage_of_decode _ hm]
    exact exec_withResets s haddr ((n - 1) :: rest)
  | error e =>
    rw [takeMessage_of_illegal s hm, htick] at h
    obtain rfl := Host.Outcome.next.inj h
    refine resetStrikesAnywhere_of_runTasks (d := 1) (s' := s.accept) hr rfl (bracketing_illegal s hi) ⟨rfl, rfl, rfl, rfl⟩
      rfl rfl fun n rest => ?_
    rw [takeMessage_of_illegal _ hm]
    rfl

/-- A reset that falls between taking a message and its command's first line loses the message. -/
theorem step_reset_after_taking {s : State} {m : Message} {ms : List Message} {rest : List Nat} (hinv : s.Inv)
    (hb : s.busy = false) (hin : s.inbox = m :: ms) (hr : s.resetScript = 1 :: rest) :
    ∃ t, step s = .next t ∧ ResetHit { s with inbox := ms } t rest [] := by
  have hstep : step s = takeMessage m ms s := by simp only [step, hr, hb, hin]
  have htick : { s.tick with inbox := ms } = ({ s with inbox := ms } : State).withResets (0 :: rest) := by
    simp [State.tick, State.withResets, hr]
  rw [hstep]
  cases hm : decode m with
  | ok i =>
    have haddr : ({ s with inbox := ms } : State).addressExists i := by
      have hwri : s.wri < s.cfg.capacity := by
        rw [hinv.wri]
        exact Nat.mod_lt _ (Nat.zero_lt_of_lt hinv.rdi)
      cases i
      case rbWrite => exact .inr hwri
      case rbRead => exact .inr hinv.rdi
      all_goals exact trivial
    obtain ⟨t, ts, hts⟩ := List.exists_cons_of_ne_nil
      (ne_nil_of_endsAnswered (endsAnswered_program ({ s with inbox := ms } : State) i))
    rw [takeMessage_of_decode s hm, htick, exec_withResets _ haddr, hts,
      runTasks_withResets_zero t ts (begun_busy _ i) (begun_todo _ i)]
    refine ⟨_, rfl, ?_⟩
    have hhit := (resetHit_hardwareReset (State.begun { s with inbox := ms } i) rest).of_later (es := [])
      (begun_sameHost _ i) (begun_responses _ i) (by simp [State.events])
    exact hhit
  | error e =>
    rw [takeMessage_of_illegal s hm, htick]
    exact ⟨_, rfl, resetHit_hardwareReset { s with inbox := ms } rest⟩

/-- Settles O2: what is due strikes first, and every line of a command, of a later step and of the answer to an illegal message can be
struck before, with the events before it shown. -/
theorem hardwareResetEndsTheCommand : Obligations.HardwareResetEndsTheCommand := by
  refine ⟨?_, fun i s t hr hi h => resetStrikesAnywhere_exec hr hi h,
    fun s t hinv hb hr h => resetStrikesAnywhere_step hinv hb hr h,
    fun m s t hr hi h => resetStrikesAnywhere_takeMessage hr hi h,
    fun s m ms rest hinv hb hin hr => step_reset_after_taking hinv hb hin hr⟩
  intro s rest hr
  refine ⟨s.hardwareReset, by simp only [step, hr], rfl, rfl, rfl, rfl, rfl, rfl, rfl, rfl, rfl, rfl, rfl, rfl, rfl, rfl, rfl,
    rfl, rfl, rfl, rfl, rfl, rfl, rfl, by rw [hardwareReset_resetScript, hr]; rfl⟩

end Sys2Proof.Machine
end

section
/-!
PROOFS. The host's messages (30_encoding.md part A): the decoder accepts exactly the encodings of well-formed commands, which are the
messages that select a row of the table and have its payload length; and what a step does with a message, legal or not.
-/

namespace Sys2Proof.Machine

/-! ### A command word by its bytes (R69, R91) -/

section
variable (a3 a2 a1 a0 b3 b2 b1 b0 : Byte)

theorem wordOf_inj :
    wordOf a3 a2 a1 a0 = wordOf b3 b2 b1 b0 ↔ a3 = b3 ∧ a2 = b2 ∧ a1 = b1 ∧ a0 = b0 := by
  constructor
  · intro h
    have h0 := congrArg (BitVec.extractLsb' 0 8) h
    have h1 := congrArg (BitVec.extractLsb' 8 24) h
    simp only [wordOf, BitVec.extractLsb'_append_eq_right, BitVec.extractLsb'_append_eq_left] at h0 h1
    have h2 := congrArg (BitVec.extractLsb' 0 8) h1
    have h3 := congrArg (BitVec.extractLsb' 8 16) h1
    simp only [BitVec.extractLsb'_append_eq_right, BitVec.extractLsb'_append_eq_left] at h2 h3
    have h4 := congrArg (BitVec.extractLsb' 0 8) h3
    have h5 := congrArg (BitVec.extractLsb' 8 8) h3
    simp only [BitVec.extractLsb'_append_eq_right, BitVec.extractLsb'_append_eq_left] at h4 h5
    exact ⟨h5, h4, h2, h0⟩
  · rintro ⟨rfl, rfl, rfl, rfl⟩
    rfl

theorem wordOf_eq_zero_iff : wordOf a3 a2 a1 a0 = 0 ↔ a3 = 0 ∧ a2 = 0 ∧ a1 = 0 ∧ a0 = 0 :=
  wordOf_inj a3 a2 a1 a0 0 0 0 0

theorem wordOf_and : wordOf a3 a2 a1 a0 &&& wordOf b3 b2 b1 b0 = wordOf (a3 &&& b3) (a2 &&& b2) (a1 &&& b1) (a0 &&& b0) := by
  have h2 : (a3 ++ a2) &&& (b3 ++ b2) = (a3 &&& b3) ++ (a2 &&& b2) := BitVec.and_append
  have h3 : (a3 ++ a2 ++ a1) &&& (b3 ++ b2 ++ b1) = ((a3 ++ a2) &&& (b3 ++ b2)) ++ (a1 &&& b1) := BitVec.and_append
  have h4 : (a3 ++ a2 ++ a1 ++ a0) &&& (b3 ++ b2 ++ b1 ++ b0) =
      ((a3 ++ a2 ++ a1) &&& (b3 ++ b2 ++ b1)) ++ (a0 &&& b0) := BitVec.and_append
  rw [h2] at h3
  rw [h3] at h4
  exact h4

/-- A word is the word of its four bytes. -/
theorem wordOf_extractLsb' (w : Word) :
    wordOf (w.extractLsb' 24 8) (w.extractLsb' 16 8) (w.extractLsb' 8 8) (w.extractLsb' 0 8) = w := by
  have h2 : w.extractLsb' 24 8 ++ w.extractLsb' 16 8 = w.extractLsb' 16 16 :=
    BitVec.extractLsb'_append_extractLsb'_eq_extractLsb' rfl
  have h3 : w.extractLsb' 16 16 ++ w.extractLsb' 8 8 = w.extractLsb' 8 24 :=
    BitVec.extractLsb'_append_extractLsb'_eq_extractLsb' rfl
  have h4 : w.extractLsb' 8 24 ++ w.extractLsb' 0 8 = w.extractLsb' 0 32 :=
    BitVec.extractLsb'_append_extractLsb'_eq_extractLsb' rfl
  unfold wordOf
  rw [h2, h3, h4]
  exact BitVec.extractLsb'_eq_self

@[simp] theorem wordBytes_wordOf : wordBytes (wordOf a3 a2 a1 a0) = [a3, a2, a1, a0] := by
  obtain ⟨h3, h2, h1, h0⟩ := (wordOf_inj ..).mp (wordOf_extractLsb' (wordOf a3 a2 a1 a0))
  simp only [wordBytes, h3, h2, h1, h0]

end

/-- A 16-bit value, zero-extended, by its bytes. -/
theorem setWidth_eq_wordOf (v : Half) : v.setWidth 32 = wordOf 0 0 (hiByte v) (loByte v) := by
  have hzero : ∀ k, 16 ≤ k → (v.setWidth 32).extractLsb' k 8 = 0 := fun k hk => by
    ext j hj
    have hout : v.getLsbD (k + j) = false := BitVec.getLsbD_of_ge v (k + j) (by omega)
    simp [hout]
  have hkeep : ∀ k, k ≤ 8 → (v.setWidth 32).extractLsb' k 8 = v.extractLsb' k 8 := fun k hk => by
    ext j hj
    simp [show k + j < 32 by omega]
  rw [← wordOf_extractLsb' (v.setWidth 32), hzero 24 (by omega), hzero 16 (by omega), hkeep 8 (by omega),
    hkeep 0 (by omega)]
  rfl

/-- A payload length, as an operand field by its bytes. -/
theorem ofNat_eq_wordOf {n : Nat} (h : n < 65536) :
    BitVec.ofNat 32 n = wordOf 0 0 (hiByte (BitVec.ofNat 16 n)) (loByte (BitVec.ofNat 16 n)) := by
  rw [← setWidth_eq_wordOf]
  apply BitVec.eq_of_toNat_eq
  simp only [BitVec.toNat_setWidth, BitVec.toNat_ofNat]
  omega

/-! ### Decoding an encoding (R92, R93) -/

theorem checked_eq_ok_iff {clear : Bool} {payload : List Byte} {n : Nat} {i j : Instr} :
    checked clear payload n i = .ok j ↔ clear = true ∧ payload.length = n ∧ i = j := by
  unfold checked
  cases clear with
  | false => simp
  | true => by_cases hlen : payload.length = n <;> simp [hlen]

/-- A message whose operands and payload pass the checks is decoded. -/
theorem checked_eq_ok {clear : Bool} {payload : List Byte} {n : Nat} (i : Instr) (hclear : clear = true)
    (hlen : payload.length = n) : checked clear payload n i = .ok i := checked_eq_ok_iff.mpr ⟨hclear, hlen, rfl⟩

theorem encode_of_arg {i : Instr} {a3 a2 a1 a0 : Byte} (h : i.arg = wordOf a3 a2 a1 a0) :
    encode i = i.opcode :: a3 :: a2 :: a1 :: a0 :: i.payload := by
  rw [encode, h, wordBytes_wordOf]
  rfl

theorem bytesHalves_halvesBytes (ws : List Half) : bytesHalves (halvesBytes ws) = ws := by
  induction ws with
  | nil => rfl
  | cons w ws ih => rw [halvesBytes, bytesHalves, ih, hiByte_append_loByte]

/-- Settles O8, format by format. -/
theorem decodeOfEncodeIsTheCommand : Obligations.DecodeOfEncodeIsTheCommand := by
  intro i hwf
  have hlen : ∀ {n : Nat}, n < 65536 → ((hiByte (BitVec.ofNat 16 n) ++ loByte (BitVec.ofNat 16 n) : Half)).toNat = n :=
    fun h => by
      rw [hiByte_append_loByte, BitVec.toNat_ofNat]
      exact Nat.mod_eq_of_lt h
  cases i
  case rbWrite chunk =>
    rw [encode_of_arg (i := .rbWrite chunk) (a3 := 0) (a2 := 0) (a1 := 0) (a0 := 0) rfl]
    exact checked_eq_ok (.rbWrite chunk) (clear := wordOf 0 0 0 0 == 0) rfl (beq_iff_eq.mp hwf)
  case playChunk data =>
    have hdata : data.length < 65536 := of_decide_eq_true hwf
    rw [encode_of_arg (i := .playChunk data) (ofNat_eq_wordOf hdata)]
    exact checked_eq_ok _ rfl (hlen hdata).symm
  case loadPatch words =>
    have hwords : words.length < 65536 := of_decide_eq_true hwf
    rw [encode_of_arg (i := .loadPatch words) (ofNat_eq_wordOf hwords)]
    have hpayload : (halvesBytes words).length = 2 * (BitVec.toNat (_ : Half)) :=
      (Laws.halvesBytes_length words).trans (congrArg (2 * ·) (hlen hwords).symm)
    exact (checked_eq_ok _ rfl hpayload).trans (congrArg (fun ws => Except.ok (Instr.loadPatch ws))
      (bytesHalves_halvesBytes words))
  case getReg b | setVolume b | setBalance b =>
    rw [encode_of_arg (a3 := 0) (a2 := 0) (a1 := 0) (a0 := b) rfl]
    rfl
  case regRead addr =>
    rw [encode_of_arg (a3 := 0) (a2 := addr) (a1 := 0) (a0 := 0) rfl]
    rfl
  case regWrite addr value =>
    rw [encode_of_arg (a3 := 0) (a2 := addr) (a1 := hiByte value) (a0 := loByte value) rfl]
    exact congrArg (fun v => Except.ok (Instr.regWrite addr v)) (hiByte_append_loByte value)
  case wramRead ext =>
    rw [encode_of_arg (a3 := hiByte ext) (a2 := loByte ext) (a1 := 0) (a0 := 0) rfl]
    exact congrArg (fun x => Except.ok (Instr.wramRead x)) (hiByte_append_loByte ext)
  case wramWrite ext value =>
    rw [encode_of_arg (a3 := hiByte ext) (a2 := loByte ext) (a1 := hiByte value) (a0 := loByte value) rfl]
    exact congrArg₂ (fun x v => Except.ok (Instr.wramWrite x v)) (hiByte_append_loByte ext) (hiByte_append_loByte value)
  case selfTest fast => cases fast <;> rfl
  case sendFill n =>
    rw [encode_of_arg (a3 := 0) (a2 := 0) (a1 := hiByte n) (a0 := loByte n) rfl]
    exact congrArg (fun v => Except.ok (Instr.sendFill v)) (hiByte_append_loByte n)
  case setTone n0 n1 n2 n3 =>
    rw [encode_of_arg (a3 := 0) (a2 := 0) (a1 := n0 ++ n1) (a0 := n2 ++ n3) rfl]
    have hnibbles : ∀ a b : Nibble, (a ++ b : Byte).extractLsb' 4 4 = a ∧ (a ++ b : Byte).extractLsb' 0 4 = b := fun _ _ =>
      ⟨BitVec.extractLsb'_append_eq_left, BitVec.extractLsb'_append_eq_right⟩
    have hdecode : decode ((Instr.setTone n0 n1 n2 n3).opcode :: 0 :: 0 :: (n0 ++ n1) :: (n2 ++ n3) :: []) =
      .ok (.setTone ((n0 ++ n1 : Byte).extractLsb' 4 4) ((n0 ++ n1 : Byte).extractLsb' 0 4)
        ((n2 ++ n3 : Byte).extractLsb' 4 4) ((n2 ++ n3 : Byte).extractLsb' 0 4)) := rfl
    rw [(hnibbles n0 n1).1, (hnibbles n0 n1).2, (hnibbles n2 n3).1, (hnibbles n2 n3).2] at hdecode
    exact hdecode
  case adjRate ppm =>
    rw [encode_of_arg (i := .adjRate ppm) (wordOf_extractLsb' ppm).symm]
    exact congrArg (fun w => Except.ok (Instr.adjRate w)) (wordOf_extractLsb' ppm)
  all_goals rfl

/-! ### Encoding what has been decoded (R91, R97) -/

/-- A message is the encoding of a command with its opcode, operand field and payload. -/
theorem encode_of_fields {i : Instr} {op a3 a2 a1 a0 : Byte} {payload : List Byte} (hop : op.toNat = i.opcode.toNat)
    (harg : i.arg = wordOf a3 a2 a1 a0) (hpayload : i.payload = payload) :
    encode i = op :: a3 :: a2 :: a1 :: a0 :: payload := by
  rw [encode_of_arg harg, hpayload, BitVec.eq_of_toNat_eq hop]

theorem halvesBytes_bytesHalves {bs : List Byte} {n : Nat} (h : bs.length = 2 * n) :
    halvesBytes (bytesHalves bs) = bs ∧ (bytesHalves bs).length = n := by
  induction n generalizing bs with
  | zero =>
    obtain rfl := List.length_eq_zero_iff.mp h
    exact ⟨rfl, rfl⟩
  | succ n ih =>
    match bs, h with
    | hi :: lo :: rest, h =>
      obtain ⟨hbytes, hlen⟩ := ih (bs := rest) (by simpa [Nat.mul_add] using h)
      simp [bytesHalves, halvesBytes, hbytes, hlen]

/-- A 16-bit count in the operand field is what the length of the payload spells. -/
theorem ofNat_toNat_half (a1 a0 : Byte) {n : Nat} (h : n = (a1 ++ a0 : Half).toNat) :
    BitVec.ofNat 32 n = wordOf 0 0 a1 a0 ∧ n < 65536 := by
  have hlt : n < 65536 := h ▸ (a1 ++ a0 : Half).isLt
  refine ⟨?_, hlt⟩
  rw [ofNat_eq_wordOf hlt, h, BitVec.ofNat_toNat, BitVec.setWidth_eq, hiByte_append, loByte_append]

/-- What the decoder accepts, opcode by opcode. -/
theorem encode_of_decodeBody {op a3 a2 a1 a0 : Byte} {payload : List Byte} {i : Instr}
    (h : decodeBody op a3 a2 a1 a0 payload = .ok i) :
    encode i = op :: a3 :: a2 :: a1 :: a0 :: payload ∧ i.wellFormed = true := by
  unfold decodeBody at h
  split at h
  case h_26 => cases h
  all_goals
    rename_i hop
    obtain ⟨hclear, hlen, rfl⟩ := checked_eq_ok_iff.mp h
    simp only [Bool.and_eq_true, beq_iff_eq] at hclear
  case h_6 => exact ⟨encode_of_fields hop hclear.symm rfl, beq_iff_eq.mpr hlen⟩
  case h_13 =>
    obtain ⟨rfl, rfl⟩ := hclear
    obtain ⟨harg, hlt⟩ := ofNat_toNat_half a1 a0 hlen
    exact ⟨encode_of_fields hop harg rfl, decide_eq_true hlt⟩
  case h_17 =>
    obtain ⟨rfl, rfl⟩ := hclear
    obtain ⟨hbytes, hwords⟩ := halvesBytes_bytesHalves hlen
    obtain ⟨harg, hlt⟩ := ofNat_toNat_half a1 a0 hwords
    exact ⟨encode_of_fields hop harg hbytes, decide_eq_true hlt⟩
  all_goals
    obtain rfl := List.length_eq_zero_iff.mp hlen
    refine ⟨encode_of_fields hop ?_ rfl, rfl⟩
  case h_1 | h_19 | h_20 =>
    obtain ⟨⟨rfl, rfl⟩, rfl⟩ := hclear
    rfl
  case h_8 =>
    obtain ⟨⟨rfl, rfl⟩, rfl⟩ := hclear
    rfl
  case h_9 => simp [Instr.arg, hclear]
  case h_10 => simp [Instr.arg, hclear]
  case h_11 => simp [Instr.arg]
  case h_12 =>
    obtain ⟨⟨⟨rfl, rfl⟩, rfl⟩, hbit⟩ := hclear
    have hbyte : ∀ b : Byte, b >>> 1 = 0 → (if b.getLsbD 0 then 1 else 0) = b := by decide
    exact congrArg (wordOf 0 0 0) (hbyte a0 hbit)
  case h_14 => simp [Instr.arg, hclear]
  case h_21 =>
    obtain ⟨rfl, rfl⟩ := hclear
    have hnibbles : ∀ b : Byte, b.extractLsb' 4 4 ++ b.extractLsb' 0 4 = b := fun _ => BitVec.extractLsb'_append_extractLsb'
    exact congrArg₂ (wordOf 0 0) (hnibbles a1) (hnibbles a0)
  case h_25 => rfl
  all_goals exact hclear.symm

/-- Settles O9: a message shorter than a command word is not accepted, and of the others each accepted one is the encoding. -/
theorem encodeOfDecodeIsTheMessage : Obligations.EncodeOfDecodeIsTheMessage := by
  intro m i h
  match m, h with
  | op :: a3 :: a2 :: a1 :: a0 :: payload, h => exact encode_of_decodeBody h

/-! ### The messages that are accepted (R93, R96, R97) -/

/-- Every command fits its row of the table. -/
theorem fits_tableRow : ∀ i : Instr, Laws.TableRow.Statement i
  | .getReg k => Laws.TableRow.getReg k
  | .rbReset => Laws.TableRow.rbReset
  | .rbSpace => Laws.TableRow.rbSpace
  | .rbAvail => Laws.TableRow.rbAvail
  | .rbFree => Laws.TableRow.rbFree
  | .rbWrite chunk => Laws.TableRow.rbWrite chunk
  | .rbRead => Laws.TableRow.rbRead
  | .regRead addr => Laws.TableRow.regRead addr
  | .regWrite addr value => Laws.TableRow.regWrite addr value
  | .wramRead ext => Laws.TableRow.wramRead ext
  | .wramWrite ext value => Laws.TableRow.wramWrite ext value
  | .selfTest fast => Laws.TableRow.selfTest fast
  | .playChunk data => Laws.TableRow.playChunk data
  | .sendFill n => Laws.TableRow.sendFill n
  | .startSong => Laws.TableRow.startSong
  | .stopSong => Laws.TableRow.stopSong
  | .loadPatch words => Laws.TableRow.loadPatch words
  | .begin => Laws.TableRow.begin
  | .setVolume v => Laws.TableRow.setVolume v
  | .setBalance b => Laws.TableRow.setBalance b
  | .setTone n0 n1 n2 n3 => Laws.TableRow.setTone n0 n1 n2 n3
  | .isConnected => Laws.TableRow.isConnected
  | .getTime => Laws.TableRow.getTime
  | .clrTime => Laws.TableRow.clrTime
  | .adjRate ppm => Laws.TableRow.adjRate ppm

section
variable {op a3 a2 a1 a0 : Byte} {payload : List Byte}

/-- The word of a message selects a row of the table, and its payload has the length of R93. -/
def Legal (op a3 a2 a1 a0 : Byte) (payload : List Byte) : Prop :=
  (∃ r ∈ opcodeTable, (op ++ wordOf a3 a2 a1 a0 : CommandWord) &&& r.mask = r.pattern) ∧
    payload.length = payloadLength op (a1 ++ a0)

/-- What is decoded is legal: it is the encoding of a command, which fits its row. -/
theorem legal_of_decode {i : Instr} (h : decode (op :: a3 :: a2 :: a1 :: a0 :: payload) = .ok i) :
    Legal op a3 a2 a1 a0 payload := by
  obtain ⟨hencode, hwf⟩ := encode_of_decodeBody h
  obtain ⟨b3, b2, b1, b0, harg⟩ : ∃ b3 b2 b1 b0, i.arg = wordOf b3 b2 b1 b0 := ⟨_, _, _, _, (wordOf_extractLsb' i.arg).symm⟩
  rw [encode_of_arg harg] at hencode
  simp only [List.cons.injEq] at hencode
  obtain ⟨rfl, rfl, rfl, rfl, rfl, rfl⟩ := hencode
  obtain ⟨r, hr, -, -, hselect, hlen⟩ := fits_tableRow i hwf
  have hlow : (wordOf b3 b2 b1 b0).setWidth 16 = b1 ++ b0 := by
    apply BitVec.eq_of_getLsbD_eq
    intro k hk
    simp only [wordOf, BitVec.getLsbD_setWidth, BitVec.getLsbD_append]
    by_cases h8 : k < 8 <;> simp [h8, hk, show k - 8 < 8 by omega]
  rw [Instr.commandWord, harg] at hselect
  rw [harg, hlow] at hlen
  exact ⟨⟨r, hr, hselect⟩, hlen⟩

/-- A row fixes the opcode with its mask's highest byte, and no bit of the operand field; its mask's other bytes are the reserved
bits. -/
theorem opcodeTable_split :
    ∀ r ∈ opcodeTable, r.mask = (0xFF : Byte) ++ r.mask.setWidth 32 ∧ r.pattern = r.op ++ (0 : Word) := by decide

theorem select_iff {r : Row} (hr : r ∈ opcodeTable) (w : Word) :
    (op ++ w : CommandWord) &&& r.mask = r.pattern ↔ op = r.op ∧ w &&& r.mask.setWidth 32 = 0 := by
  obtain ⟨hmask, hpattern⟩ := opcodeTable_split r hr
  have hsplit : (op ++ w : CommandWord) &&& r.mask = op ++ (w &&& r.mask.setWidth 32) := by
    have hand : (op ++ w) &&& ((0xFF : Byte) ++ r.mask.setWidth 32) =
        (op &&& 0xFF) ++ (w &&& r.mask.setWidth 32) := BitVec.and_append
    have hop : op &&& 0xFF = op := BitVec.and_allOnes
    rw [hop] at hand
    conv_lhs => rw [hmask]
    exact hand
  rw [hsplit, hpattern]
  constructor
  · intro h
    have hhi := congrArg (BitVec.extractLsb' 32 8) h
    have hlo := congrArg (BitVec.extractLsb' 0 32) h
    simp only [BitVec.extractLsb'_append_eq_left, BitVec.extractLsb'_append_eq_right] at hhi hlo
    exact ⟨hhi, hlo⟩
  · rintro ⟨rfl, hlo⟩
    rw [hlo]

/-- The reserved bits of a format, byte by byte. -/
theorem reserved_bytes {m3 m2 m1 m0 : Byte} (h : wordOf a3 a2 a1 a0 &&& wordOf m3 m2 m1 m0 = 0) :
    a3 &&& m3 = 0 ∧ a2 &&& m2 = 0 ∧ a1 &&& m1 = 0 ∧ a0 &&& m0 = 0 := by
  rwa [wordOf_and, wordOf_eq_zero_iff] at h

theorem byte_and_ones (b : Byte) : b &&& 0xFF = b := BitVec.and_allOnes

theorem clear_of_formatZ (h : wordOf a3 a2 a1 a0 &&& wordOf 0xFF 0xFF 0xFF 0xFF = 0) :
    (wordOf a3 a2 a1 a0 == 0) = true := by
  simpa only [byte_and_ones, beq_iff_eq, wordOf_eq_zero_iff] using reserved_bytes h

theorem clear_of_formatB (h : wordOf a3 a2 a1 a0 &&& wordOf 0xFF 0xFF 0xFF 0x00 = 0) :
    (a3 == 0 && a2 == 0 && a1 == 0) = true := by
  obtain ⟨h3, h2, h1, -⟩ := reserved_bytes h
  rw [byte_and_ones] at h3 h2 h1
  simp [h3, h2, h1]

theorem clear_of_formatA (h : wordOf a3 a2 a1 a0 &&& wordOf 0xFF 0x00 0xFF 0xFF = 0) :
    (a3 == 0 && a1 == 0 && a0 == 0) = true := by
  obtain ⟨h3, -, h1, h0⟩ := reserved_bytes h
  rw [byte_and_ones] at h3 h1 h0
  simp [h3, h1, h0]

theorem clear_of_formatAV (h : wordOf a3 a2 a1 a0 &&& wordOf 0xFF 0x00 0x00 0x00 = 0) : (a3 == 0) = true := by
  obtain ⟨h3, -⟩ := reserved_bytes h
  rw [byte_and_ones] at h3
  simp [h3]

theorem clear_of_formatX (h : wordOf a3 a2 a1 a0 &&& wordOf 0x00 0x00 0xFF 0xFF = 0) :
    (a1 == 0 && a0 == 0) = true := by
  obtain ⟨-, -, h1, h0⟩ := reserved_bytes h
  rw [byte_and_ones] at h1 h0
  simp [h1, h0]

theorem clear_of_formatF (h : wordOf a3 a2 a1 a0 &&& wordOf 0xFF 0xFF 0xFF 0xFE = 0) :
    (a3 == 0 && a2 == 0 && a1 == 0 && a0 >>> 1 == 0) = true := by
  obtain ⟨h3, h2, h1, h0⟩ := reserved_bytes h
  have hshift : ∀ b : Byte, b &&& 0xFE = 0 → b >>> 1 = 0 := by decide
  rw [byte_and_ones] at h3 h2 h1
  simp [h3, h2, h1, hshift a0 h0]

theorem clear_of_formatN (h : wordOf a3 a2 a1 a0 &&& wordOf 0xFF 0xFF 0x00 0x00 = 0) :
    (a3 == 0 && a2 == 0) = true := by
  obtain ⟨h3, h2, -⟩ := reserved_bytes h
  rw [byte_and_ones] at h3 h2
  simp [h3, h2]

/-- A legal message is decoded, row by row of the table. -/
theorem decode_of_legal (h : Legal op a3 a2 a1 a0 payload) :
    ∃ i, decode (op :: a3 :: a2 :: a1 :: a0 :: payload) = .ok i := by
  obtain ⟨⟨r, hr, hselect⟩, hlen⟩ := h
  obtain ⟨rfl, hclear⟩ := (select_iff hr _).mp hselect
  simp only [opcodeTable, List.mem_cons, List.not_mem_nil, or_false] at hr
  obtain rfl | rfl | rfl | rfl | rfl | rfl | rfl | rfl | rfl | rfl | rfl | rfl | rfl | rfl | rfl | rfl | rfl | rfl | rfl
    | rfl | rfl | rfl | rfl | rfl | rfl := hr
  · exact ⟨_, checked_eq_ok (.getReg a0) (clear_of_formatB hclear) hlen⟩
  · exact ⟨_, checked_eq_ok .rbReset (clear_of_formatZ hclear) hlen⟩
  · exact ⟨_, checked_eq_ok .rbSpace (clear_of_formatZ hclear) hlen⟩
  · exact ⟨_, checked_eq_ok .rbAvail (clear_of_formatZ hclear) hlen⟩
  · exact ⟨_, checked_eq_ok .rbFree (clear_of_formatZ hclear) hlen⟩
  · exact ⟨_, checked_eq_ok (.rbWrite payload) (clear_of_formatZ hclear) hlen⟩
  · exact ⟨_, checked_eq_ok .rbRead (clear_of_formatZ hclear) hlen⟩
  · exact ⟨_, checked_eq_ok (.regRead a2) (clear_of_formatA hclear) hlen⟩
  · exact ⟨_, checked_eq_ok (.regWrite a2 (a1 ++ a0)) (clear_of_formatAV hclear) hlen⟩
  · exact ⟨_, checked_eq_ok (.wramRead (a3 ++ a2)) (clear_of_formatX hclear) hlen⟩
  · exact ⟨_, checked_eq_ok (.wramWrite (a3 ++ a2) (a1 ++ a0)) rfl hlen⟩
  · exact ⟨_, checked_eq_ok (.selfTest (a0.getLsbD 0)) (clear_of_formatF hclear) hlen⟩
  · exact ⟨_, checked_eq_ok (.playChunk payload) (clear_of_formatN hclear) hlen⟩
  · exact ⟨_, checked_eq_ok (.sendFill (a1 ++ a0)) (clear_of_formatN hclear) hlen⟩
  · exact ⟨_, checked_eq_ok .startSong (clear_of_formatZ hclear) hlen⟩
  · exact ⟨_, checked_eq_ok .stopSong (clear_of_formatZ hclear) hlen⟩
  · exact ⟨_, checked_eq_ok (.loadPatch (bytesHalves payload)) (clear_of_formatN hclear) hlen⟩
  · exact ⟨_, checked_eq_ok .begin (clear_of_formatZ hclear) hlen⟩
  · exact ⟨_, checked_eq_ok (.setVolume a0) (clear_of_formatB hclear) hlen⟩
  · exact ⟨_, checked_eq_ok (.setBalance a0) (clear_of_formatB hclear) hlen⟩
  · exact ⟨_, checked_eq_ok (.setTone (a1.extractLsb' 4 4) (a1.extractLsb' 0 4) (a0.extractLsb' 4 4)
      (a0.extractLsb' 0 4)) (clear_of_formatN hclear) hlen⟩
  · exact ⟨_, checked_eq_ok .isConnected (clear_of_formatZ hclear) hlen⟩
  · exact ⟨_, checked_eq_ok .getTime (clear_of_formatZ hclear) hlen⟩
  · exact ⟨_, checked_eq_ok .clrTime (clear_of_formatZ hclear) hlen⟩
  · exact ⟨_, checked_eq_ok (.adjRate (wordOf a3 a2 a1 a0)) rfl hlen⟩

end

/-- Settles O10. -/
theorem decodeAcceptsExactlyTheTable : Obligations.DecodeAcceptsExactlyTheTable :=
  fun _ _ _ _ _ _ => ⟨fun ⟨_, h⟩ => legal_of_decode h, decode_of_legal⟩

/-- Settles O11: the decoder computes on written-out messages. -/
theorem writtenOutMessagesDecode : Obligations.WrittenOutMessagesDecode := ⟨rfl, rfl, rfl, rfl, rfl⟩

/-! ### What a step does with the message at the port (R90, R97, R301) -/

variable {s : State} {m : Message} {ms : List Message}

theorem step_of_message (hr : s.resetScript = []) (hb : s.busy = false) (hin : s.inbox = m :: ms) :
    step s = takeMessage m ms s := by simp only [step, hr, hb, hin]

theorem step_of_message_before_reset {n : Nat} {later : List Nat} (hr : s.resetScript = (n + 1) :: later)
    (hb : s.busy = false) (hin : s.inbox = m :: ms) : step s = takeMessage m ms s := by
  simp only [step, hr, hb, hin]

/-- Settles O14: with nothing to do and no reset coming not even the host's clock runs. -/
theorem idleStepHoldsTheState : Obligations.IdleStepHoldsTheState := by
  intro s hr hb hin
  have hstep : step s = .next s.tick := by simp only [step, hr, hb, hin, State.idle]
  rw [hstep, tick_of_none s hr]

/-- Settles O13: taking the message is one micro-operation, and then its command begins. -/
theorem stepRunsTheDecodedCommand : Obligations.StepRunsTheDecodedCommand := by
  intro s m rest i hb hin hm
  constructor
  · intro hr
    rw [step_of_message hr hb hin, takeMessage_of_decode s hm, tick_of_none s hr]
  · intro n later hr
    have htick : s.tick = { s with resetScript := n :: later } := by simp [State.tick, hr]
    rw [step_of_message_before_reset hr hb hin, takeMessage_of_decode s hm, htick]

/-- Settles O12: a message that is not legal is not decoded, and the one line that answers it raises outside every transaction. -/
theorem illegalMessageIsDropped : Obligations.IllegalMessageIsDropped := by
  intro s op a3 a2 a1 a0 payload rest hr hb ht hi hin hillegal
  rw [step_of_message hr hb hin]
  cases hm : decode (op :: a3 :: a2 :: a1 :: a0 :: payload) with
  | ok i => exact absurd (legal_of_decode hm) hillegal
  | error e =>
    have hraise : State.runTasks (State.accept { s with inbox := rest }) (lines [.raise .illegalCommand 0]) =
        (State.accept { s with inbox := rest }).respond .illegalCommand 0 [] :=
      accept_runPrim_raise { s with inbox := rest } .illegalCommand 0 hr hi
    rw [takeMessage_of_illegal s hm, tick_of_none s hr, hraise]
    simp [State.respond, State.accept, hb, ht]

/-! ### Every command is accepted, and `raise` (R12, R287, R296) -/

/-- Settles O15: only an index out of range stops a command. -/
theorem everyCommandIsAccepted : Obligations.EveryCommandIsAccepted := by
  intro i s hrdi hwri
  have haddr : s.addressExists i := by
    cases i
    case rbWrite => exact .inr hwri
    case rbRead => exact .inr hrdi
    all_goals exact trivial
  exact ⟨_, exec_eq_next s i haddr⟩

/-- Settles O16: a response after an open transaction is closed. -/
theorem raiseClosesAndAnswers : Obligations.RaiseClosesAndAnswers := by
  intro s status info
  refine ⟨raise_busMode s status info, raise_busy s status info, raise_todo s status info, raise_responses s status info,
    ?_, ?_⟩
  · by_cases hm : s.busMode = .idle
    · rw [raise_of_idle s status info hm, if_pos hm, List.append_nil]
      rfl
    · rw [raise_of_active s status info hm, if_neg hm]
      simp [State.events]
  · constructor
    case store => intro a; simp [State.storeByte]
    all_goals simp

end Sys2Proof.Machine
end

section
/-!
PROOFS. Each ring command by itself (40_ringbuffer.md): what it leaves of the registers, the store and the ports, and what that is on
the queue (R142).
-/

namespace Sys2Proof.Machine

variable (s : State)

/-! ### The queries (R132 to R134) -/

/-- The answer to each of the three queries. -/
theorem exec_ring_queries (hr : s.resetScript = []) :
    exec .rbSpace s = .next (s.accept.respond .ok (if s.cnt < s.cfg.capacity then 1 else 0) []) ∧
      exec .rbAvail s = .next (s.accept.respond .ok (zext32 s.cnt) []) ∧
      exec .rbFree s = .next (s.accept.respond .ok (zext32 (s.cfg.capacity - s.cnt)) []) := by
  have hanswer (v : Word) : (.next (s.accept.runPrim (.answer (.value v))) : Host.Outcome State Fault Refusal) =
      .next (s.accept.respond .ok v []) := congrArg _ (accept_runPrim_answer_value s v hr)
  have hspace : boolValue (decide (s.cnt < s.cfg.capacity)) = if s.cnt < s.cfg.capacity then 1 else 0 := by
    simp [boolValue]
  exact ⟨hspace ▸ hanswer _, hanswer _, hanswer _⟩

/-- Settles O24: each query is an answer sent at once. -/
theorem ringQueriesAnswer : Obligations.RingQueriesAnswer := by
  intro s hr
  obtain ⟨hspace, havail, hfree⟩ := exec_ring_queries s hr
  have hended := fun v => (samePorts_accept s).ended_respond .ok v []
  exact ⟨⟨_, hspace, sameRegisters_accept_respond s _ _ _, rfl, hended _⟩,
    ⟨_, havail, sameRegisters_accept_respond s _ _ _, rfl, hended _⟩,
    ⟨_, hfree, sameRegisters_accept_respond s _ _ _, rfl, hended _⟩, fun n hn => if_pos hn⟩

/-! ### RB_WRITE and RB_READ (R136, R138) -/

/-- Outside every transaction a raise in a command just taken is its response. -/
theorem accept_raise_eq (hi : s.busMode = .idle) (st : Status) (v : Word) :
    s.accept.raise st v = s.accept.respond st v [] := raise_of_idle s.accept st v hi

theorem ended_chunkWritten (chunk : List Byte) :
    Ended s ((s.chunkWritten chunk).accept.respond .ok 0 []) ⟨.ok, 0, []⟩ [.storeWrite (s.wri * 32) chunk] 0 0 where
  busy := rfl
  todo := rfl
  responses := rfl
  events := List.reverse_cons
  inbox := rfl
  resetScript := rfl
  resets := rfl
  pollScript := rfl
  polled := rfl
  rxScript := rfl
  clocked := rfl

theorem ended_chunkTaken :
    Ended s (s.chunkTaken.accept.respond .ok 0 (s.chunkAt s.rdi)) ⟨.ok, 0, s.chunkAt s.rdi⟩
      [.storeRead (s.rdi * 32) (s.chunkAt s.rdi)] 0 0 where
  busy := rfl
  todo := rfl
  responses := rfl
  events := List.reverse_cons
  inbox := rfl
  resetScript := rfl
  resets := rfl
  pollScript := rfl
  polled := rfl
  rxScript := rfl
  clocked := rfl

/-- Settles O25, on a full ring and on one that is not. -/
theorem rbWriteStoresOrReportsFull : Obligations.RbWriteStoresOrReportsFull := by
  intro s chunk hr hi hlen hwri
  split
  · next hfull =>
    rw [exec_rbWrite_full s chunk hr hfull, accept_raise_eq s hi]
    exact ⟨_, rfl, sameRegisters_accept_respond s _ _ _, hi, (samePorts_accept s).ended_respond _ _ _⟩
  · next hfull =>
    refine ⟨_, exec_rbWrite_stored s chunk hr hfull hwri, fun j hj => ?_, fun a ha => ?_,
      { sameRegisters_accept_respond (s.chunkWritten chunk) .ok 0 [] with }, hi, ended_chunkWritten s chunk, rfl, ?_⟩
    · have hj' : j < chunk.length := by omega
      rw [List.getElem?_eq_getElem hj']
      exact congrArg some (storeByte_chunkWritten_inside s chunk j hj').symm
    · exact storeByte_chunkWritten_outside s chunk a (by omega)
    · exact full_eq_true_iff _

/-- Settles O26, on an empty ring and on one that is not. -/
theorem rbReadLoadsOrReportsEmpty : Obligations.RbReadLoadsOrReportsEmpty := by
  intro s hr hi hrdi hcnt
  split
  · next hempty =>
    rw [exec_rbRead_empty s hr hempty, accept_raise_eq s hi]
    exact ⟨_, rfl, sameRegisters_accept_respond s _ _ _, hi, (samePorts_accept s).ended_respond _ _ _⟩
  · next hempty =>
    refine ⟨_, s.chunkAt s.rdi, exec_rbRead_taken s hr hempty hrdi, memRead_length .., fun j hj => ?_,
      { sameRegisters_accept_respond s.chunkTaken .ok 0 (s.chunkAt s.rdi) with }, hi, ended_chunkTaken s, ?_, ?_⟩
    · simp [State.chunkAt, State.memRead, hj]
    · have hnot : ¬ s.cnt - 1 = s.cfg.capacity := by omega
      exact decide_eq_false hnot
    · exact empty_eq_true_iff _

/-- Settles O27. -/
theorem ringIndexOutsideTheStoreFaults : Obligations.RingIndexOutsideTheStoreFaults :=
  ⟨fun s chunk hfull hwri => exec_fault s (.rbWrite chunk) (not_or.mpr ⟨hfull, Nat.not_lt.mpr hwri⟩),
    fun s hempty hrdi => exec_fault s .rbRead (not_or.mpr ⟨hempty, Nat.not_lt.mpr hrdi⟩)⟩

/-! ### The ring commands on the queue (R142) -/

@[simp] theorem queue_length : s.queue.length = s.cnt := by simp [State.queue]

theorem queue_of_empty (h : s.cnt = 0) : s.queue = [] := List.length_eq_zero_iff.mp ((queue_length s).trans h)

/-- RB_WRITE appends to a queue that is not full. -/
theorem RingReady.exec_rbWrite_queue {s : State} (h : RingReady s) {chunk : List Byte} (hlen : chunk.length = 32) :
    ∃ t, exec (.rbWrite chunk) s = .next t ∧
      t.queue = if s.queue.length < s.cfg.capacity then s.queue ++ [chunk] else s.queue := by
  have hcnt := h.cnt
  by_cases hfull : s.cnt = s.cfg.capacity
  · refine ⟨_, exec_rbWrite_full s chunk h.resetScript hfull, ?_⟩
    rw [if_neg (by rw [queue_length]; omega), queue_raise, queue_accept]
  · refine ⟨_, exec_rbWrite_stored s chunk h.resetScript hfull h.wri_lt, ?_⟩
    rw [if_pos (by rw [queue_length]; omega), queue_respond, queue_accept, h.queue_chunkWritten hfull hlen]

/-- RB_READ takes the queue's first chunk. -/
theorem RingReady.exec_rbRead_queue {s : State} (h : RingReady s) :
    ∃ t, exec .rbRead s = .next t ∧ t.queue = s.queue.tail ∧
      ∀ c, s.queue.head? = some c → t.responses = ⟨.ok, 0, c⟩ :: s.responses := by
  by_cases hempty : s.cnt = 0
  · refine ⟨_, exec_rbRead_empty s h.resetScript hempty, ?_⟩
    simp [queue_of_empty s hempty]
  · refine ⟨_, exec_rbRead_taken s h.resetScript hempty h.rdi, ?_⟩
    rw [h.queue_eq_cons hempty]
    refine ⟨rfl, fun c hc => ?_⟩
    obtain rfl := Option.some.inj hc
    rfl

/-- Settles O28: RB_WRITE, RB_READ and RB_RESET as operations on the queue, and the queries as its length. -/
theorem ringCommandsRefineTheQueue : Obligations.RingCommandsRefineTheQueue := by
  intro s chunk hinv _ hr hlen
  have hready := ringReady_of_inv hinv hr
  obtain ⟨hspace, havail, hfree⟩ := exec_ring_queries s hr
  rw [queue_length] at *
  refine ⟨rfl, ?_, hready.exec_rbRead_queue, ⟨_, exec_rbReset_eq s hr, rfl⟩, ⟨_, hspace, rfl⟩, ⟨_, havail, rfl⟩,
    ⟨_, hfree, rfl⟩⟩
  simpa using hready.exec_rbWrite_queue hlen

/-! ### The widths of the ring's registers (R21 to R23) -/

theorem le_two_pow_ceilLog2 (n : Nat) : n ≤ 2 ^ ceilLog2 n := by
  unfold ceilLog2
  split
  · next h => simpa using h
  · have hlt := Nat.lt_log2_self (n := n - 1)
    omega

/-- Settles O6: each width holds the largest value that the invariant allows. -/
theorem ringRegistersFitTheirWidths : Obligations.RingRegistersFitTheirWidths := by
  intro s hinv
  have hcap : s.cfg.capacity ≤ 2 ^ idxWidth s.cfg :=
    (le_two_pow_ceilLog2 _).trans (Nat.pow_le_pow_right Nat.two_pos (Nat.le_max_right 1 _))
  have hwri : s.wri < s.cfg.capacity := by
    rw [hinv.wri]
    exact Nat.mod_lt _ (Nat.zero_lt_of_lt hinv.rdi)
  exact ⟨hinv.rdi.trans_le hcap, hwri.trans_le hcap,
    (Nat.lt_succ_of_le hinv.cnt).trans_le (le_two_pow_ceilLog2 (s.cfg.capacity + 1))⟩

end Sys2Proof.Machine
end

section
/-!
PROOFS. The rules over all commands: the invariant (10_state.md R21 to R27, R24), the bracketed trace (R169), the rows of R47, the two
ports (R80), and the status bits that gate nothing (R296).
-/

namespace Sys2Proof.Machine

variable (s : State)

/-! ### What a step can do -/

/-- A step with no hardware reset coming goes on with the command in progress, takes a message, or idles. -/
theorem step_cases {s t : State} (hr : s.resetScript = []) (h : step s = .next t) :
    (s.busy = true ∧ t = s.resume) ∨ (s.busy = false ∧ t = s) ∨
      (s.busy = false ∧ ∃ m ms i, s.inbox = m :: ms ∧ decode m = .ok i ∧ exec i { s with inbox := ms } = .next t) ∨
      (s.busy = false ∧ ∃ m ms, s.inbox = m :: ms ∧
        t = (State.accept { s with inbox := ms }).runTasks (lines [.raise .illegalCommand 0])) := by
  cases hb : s.busy with
  | true =>
    rw [step_of_busy hr hb] at h
    exact .inl ⟨rfl, (Host.Outcome.next.inj h).symm⟩
  | false =>
    cases hin : s.inbox with
    | nil =>
      rw [idleStepHoldsTheState s hr hb hin] at h
      exact .inr (.inl ⟨rfl, (Host.Outcome.next.inj h).symm⟩)
    | cons m ms =>
      rw [step_of_message hr hb hin] at h
      cases hm : decode m with
      | ok i =>
        rw [takeMessage_of_decode s hm, tick_of_none s hr] at h
        exact .inr (.inr (.inl ⟨rfl, m, ms, i, rfl, hm, h⟩))
      | error e =>
        rw [takeMessage_of_illegal s hm, tick_of_none s hr] at h
        exact .inr (.inr (.inr ⟨rfl, m, ms, rfl, (Host.Outcome.next.inj h).symm⟩))

/-! ### The bracketed trace (R169) -/

/-- Settles O5: no line breaks the bracketing where it may stand. -/
theorem stepKeepsTheTraceBracketed : Obligations.StepKeepsTheTraceBracketed := by
  intro s t hinv hr htrace h
  obtain ⟨hb, rfl⟩ | ⟨-, rfl⟩ | ⟨hb, m, ms, i, -, -, hexec⟩ | ⟨hb, m, ms, -, rfl⟩ := step_cases hr h
  · exact (hinv.bracketing_woken hb).traceMode hr htrace
  · exact htrace
  · obtain rfl := exec_next_eq hexec
    refine (bracketing_program { s with inbox := ms } i (hinv.idle hb).1).traceMode ((begun_resetScript _ i).trans hr) ?_
    rw [begun_trace, begun_busMode]
    exact htrace
  · exact (bracketing_illegal { s with inbox := ms } (hinv.idle hb).1).traceMode hr htrace

/-! ### The rows of R47 -/

/-- The store's bytes are those of the store's content and of the free values. -/
theorem storeByte_eq_of_same {s t : State} (hstore : Part.store.Same s t) (hresets : t.resets = s.resets) (a : Nat) :
    t.storeByte a = s.storeByte a := by
  have hcontent : t.store = s.store := hstore
  simp only [State.storeByte, hcontent, hresets]

/-- What holds of every state of a command from its beginning to its response: the parts in whose rows the command does not stand are
those of `s`, and so are the parameters; no line put off writes such a part; and the lines put off close what they open. -/
structure RunsFrom (i : Instr) (s u : State) : Prop where
  host : SameHost s u
  same : ∀ e, e ∉ instrParts i → e.Same s u ∧ e ∉ u.todo.flatMap Task.parts
  brackets : s.busMode = .idle → Bracketing u []

theorem runsFrom_exec {i : Instr} {s t : State} (hr : s.resetScript = []) (h : exec i s = .next t) : RunsFrom i s t where
  host := by
    rw [exec_next_eq h]
    exact (begun_sameHost s i).trans (runTasks_sameHost ((begun_resetScript s i).trans hr) _)
  same _ he := exec_same hr h he
  brackets hi := by
    rw [exec_next_eq h]
    exact (bracketing_program s i hi).runTasks ((begun_resetScript s i).trans hr)

theorem RunsFrom.resume {i : Instr} {s u : State} (hr : s.resetScript = []) (h : RunsFrom i s u) (hb : u.busy = true) :
    RunsFrom i s u.resume where
  host := h.host.trans (resume_sameHost (h.host.resetScript.trans hr))
  same e he := by
    obtain ⟨hsame, htodo⟩ := h.same e he
    obtain ⟨hsame', htodo'⟩ := resume_same (h.host.resetScript.trans hr) htodo
    exact ⟨hsame.trans hsame', htodo'⟩
  brackets hi := by
    have hbr := (h.brackets hi).bracketed_todo hb
    exact Bracketing.runTasks (s := u.woken) (h.host.resetScript.trans hr)
      (.running hb ((bracketed_eq_true_iff _ _).mp hbr))

theorem runsFrom_of_commandRun {i : Instr} {s t u : State} (hr : s.resetScript = []) (h : exec i s = .next t)
    (hrun : CommandRun t u) : RunsFrom i s u := by
  induction hrun with
  | here => exact runsFrom_exec hr h
  | next _ hb hstep ih =>
    rw [step_of_busy (ih.host.resetScript.trans hr) hb] at hstep
    exact Host.Outcome.next.inj hstep ▸ ih.resume hr hb

/-- A line that can stand behind a wait writes no ring register, no volume, balance or tone, and not the pull-up or the pulse. -/
theorem parts_of_mayWait (t : Task) (h : t.mayWait = true) :
    t.parts ⊆ [.modeMir, .busSpd, .hsFail, .fill, .degraded, .ready] := by
  cases t
  case prim p =>
    cases p
    case storeChunk | advanceWrite | loadChunk | advanceRead | clearRing | createPlayback | setPullup | resetAssert
        | resetRelease => cases h
    case mirror | setSpeed | judgeHigh | keepFill | degrade | becomeReady => simp [Task.parts, Prim.parts]
    all_goals exact List.nil_subset _
  case lowTest => cases h
  case bringUpChain => simp [Task.parts]
  case stopLoop | cancelTest => simp [Task.parts]
  all_goals exact List.nil_subset _

/-- A later step of a command leaves all other parts. -/
theorem State.Inv.resume_same {s : State} (hinv : s.Inv) (hb : s.busy = true) (hr : s.resetScript = []) {e : Part}
    (he : e ∉ [Part.modeMir, .busSpd, .hsFail, .fill, .degraded, .ready]) : e.Same s s.resume := by
  obtain ⟨-, hmay, -⟩ := hinv.waiting hb
  refine (Machine.resume_same hr fun hmem => he ?_).1
  obtain ⟨t, ht, het⟩ := List.mem_flatMap.mp hmem
  exact parts_of_mayWait t (List.all_eq_true.mp hmay t ht) het

/-- R47's rows as the statement spells them: the commands that write a part. -/
def Part.row (e : Part) (i : Instr) : Prop :=
  match e with
  | .rdi => i = .rbReset ∨ i = .rbRead
  | .wri => i = .rbReset ∨ ∃ c, i = .rbWrite c
  | .cnt => i = .rbReset ∨ (∃ c, i = .rbWrite c) ∨ i = .rbRead
  | .store => ∃ c, i = .rbWrite c
  | .vol => (∃ v, i = .setVolume v) ∨ i = .begin
  | .bal => (∃ b, i = .setBalance b) ∨ i = .begin
  | .tone => (∃ a b c d, i = .setTone a b c d) ∨ i = .begin
  | .modeMir => i = .stopSong ∨ i = .begin
  | .storePort => (∃ c, i = .rbWrite c) ∨ i = .rbRead
  | .fill | .busSpd | .rdyPull | .ready | .degraded | .hsFail | .pulse => i = .begin

theorem Part.row_of_mem {e : Part} {i : Instr} (h : e ∈ instrParts i) : e.row i := by
  cases i
  case rbReset | rbWrite | rbRead | stopSong | begin | setVolume | setBalance | setTone =>
    revert h
    cases e <;> simp [instrParts, Part.row]
  all_goals cases h

/-- Settles O58: the lines of a command write only the parts in whose rows it stands. -/
theorem onlyTheNamedCommandsWrite : Obligations.OnlyTheNamedCommandsWrite := by
  constructor
  · intro i s t u hr h hrun
    have hfrom := runsFrom_of_commandRun hr h hrun
    have hsame : ∀ e : Part, ¬ e.row i → e.Same s u := fun e he => (hfrom.same e (mt Part.row_of_mem he)).1
    refine ⟨hfrom.host.cfg, fun h1 h2 => hsame .rdi (not_or.mpr ⟨h1, h2⟩),
      fun h1 h2 => hsame .wri (not_or.mpr ⟨h1, not_exists.mpr h2⟩),
      fun h1 h2 h3 => hsame .cnt (not_or.mpr ⟨h1, not_or.mpr ⟨not_exists.mpr h2, h3⟩⟩),
      fun h1 => storeByte_eq_of_same (hsame .store (not_exists.mpr h1)) hfrom.host.resets,
      fun h1 h2 => hsame .vol (not_or.mpr ⟨not_exists.mpr h1, h2⟩),
      fun h1 h2 => hsame .bal (not_or.mpr ⟨not_exists.mpr h1, h2⟩),
      fun h1 h2 => hsame .tone (not_or.mpr ⟨fun ⟨a, b, c, d, h⟩ => h1 a b c d h, h2⟩), fun h1 => hsame .fill h1,
      fun h1 h2 => hsame .modeMir (not_or.mpr ⟨h1, h2⟩),
      fun h1 => ⟨hsame .busSpd h1, hsame .rdyPull h1, hsame .ready h1, hsame .degraded h1, hsame .hsFail h1⟩,
      fun hi hb => (hfrom.brackets hi).idle_of_ended hb⟩
  · intro s t hinv hb hr h
    rw [step_of_busy hr hb] at h
    obtain rfl := Host.Outcome.next.inj h
    have hsame : ∀ e, e ∉ [Part.modeMir, .busSpd, .hsFail, .fill, .degraded, .ready] → e.Same s s.resume := fun _ he =>
      hinv.resume_same hb hr he
    have hhost := resume_sameHost hr
    exact ⟨hhost.cfg, hsame .rdi (by decide), hsame .wri (by decide), hsame .cnt (by decide),
      storeByte_eq_of_same (hsame .store (by decide)) hhost.resets, hsame .vol (by decide), hsame .bal (by decide),
      hsame .tone (by decide), hsame .rdyPull (by decide)⟩

/-! ### The two ports (R80) -/

/-- The events since `s`, in the order of time. -/
theorem exists_events_of_trace {s t : State} {es : List Event} {b : Bool} (htrace : t.trace = es ++ s.trace)
    (hes : ∀ e ∈ es, e.atStore = b) : ∃ evs, t.events = s.events ++ evs ∧ ∀ e ∈ evs, e.atStore = b :=
  ⟨es.reverse, by simp [State.events, htrace], fun e he => hes e (List.mem_reverse.mp he)⟩

/-- A ring command shows events at the store's port only. -/
theorem exec_ring_trace {i : Instr} {s t : State} (hring : isRingCommand i = true) (hr : s.resetScript = [])
    (hi : s.busMode = .idle) (h : exec i s = .next t) :
    ∃ es, t.trace = es ++ s.trace ∧ ∀ e ∈ es, e.atStore = true := by
  have hnone : ∀ u : State, exec i s = .next u → u.trace = s.trace → ∃ es, t.trace = es ++ s.trace ∧ ∀ e ∈ es, e.atStore = true :=
    fun u hu htrace => by
      obtain rfl := Host.Outcome.next.inj (hu.symm.trans h)
      exact ⟨[], htrace, fun _ he => nomatch he⟩
  have hone : ∀ (u : State) (e : Event), exec i s = .next u → u.trace = e :: s.trace → e.atStore = true →
      ∃ es, t.trace = es ++ s.trace ∧ ∀ e ∈ es, e.atStore = true := fun u e hu htrace he => by
    obtain rfl := Host.Outcome.next.inj (hu.symm.trans h)
    exact ⟨[e], htrace, fun e' he' => (List.mem_singleton.mp he') ▸ he⟩
  obtain ⟨hspace, havail, hfree⟩ := exec_ring_queries s hr
  have haddr := ((exec_eq_next_iff s i t).mp h).1
  cases i
  case rbReset => exact hnone _ (exec_rbReset_eq s hr) rfl
  case rbSpace => exact hnone _ hspace rfl
  case rbAvail => exact hnone _ havail rfl
  case rbFree => exact hnone _ hfree rfl
  case rbWrite chunk =>
    by_cases hfull : s.cnt = s.cfg.capacity
    · exact hnone _ (exec_rbWrite_full s chunk hr hfull) (by rw [accept_raise_eq s hi]; rfl)
    · exact hone _ _ (exec_rbWrite_stored s chunk hr hfull (haddr.resolve_left hfull)) rfl rfl
  case rbRead =>
    by_cases hempty : s.cnt = 0
    · exact hnone _ (exec_rbRead_empty s hr hempty) (by rw [accept_raise_eq s hi]; rfl)
    · exact hone _ _ (exec_rbRead_taken s hr hempty (haddr.resolve_left hempty)) rfl rfl
  all_goals cases hring

/-- Settles O59: a command that is not one of the ring's has no line with an event at the store's port. -/
theorem storeAndBusPortsAreSeparate : Obligations.StoreAndBusPortsAreSeparate := by
  constructor
  · intro i s t hr hi h
    cases hring : isRingCommand i with
    | true =>
      obtain ⟨es, htrace, hes⟩ := exec_ring_trace hring hr hi h
      exact exists_events_of_trace htrace hes
    | false =>
      have hport : Part.storePort ∉ instrParts i := by
        cases i
        case rbWrite | rbRead => cases hring
        all_goals simp [instrParts]
      obtain ⟨es, htrace, hes⟩ := (exec_same hr h hport).1
      exact exists_events_of_trace htrace hes
  · intro s t hinv hb hr h
    rw [step_of_busy hr hb] at h
    obtain rfl := Host.Outcome.next.inj h
    obtain ⟨es, htrace, hes⟩ := hinv.resume_same hb hr (e := .storePort) (by decide)
    exact exists_events_of_trace htrace hes

/-! ### The status bits gate nothing (R296) -/

/-- The parts that BEGIN alone writes and GET_REG 8 alone reads. -/
def statusParts : List Part := [.ready, .degraded, .hsFail]

section
variable (ready degraded hsFail : Bool)

theorem raise_withStatusBits (st : Status) (v : Word) :
    (s.withStatusBits ready degraded hsFail).raise st v = (s.raise st v).withStatusBits ready degraded hsFail := by
  by_cases hm : s.busMode = .idle
  · rw [raise_of_idle s st v hm, raise_of_idle (s.withStatusBits ready degraded hsFail) st v hm]
    rfl
  · rw [raise_of_active s st v hm, raise_of_active (s.withStatusBits ready degraded hsFail) st v hm]
    rfl

theorem Prim.effect_withStatusBits (p : Prim) (h : ∀ e ∈ statusParts, e ∉ p.parts) :
    p.effect (s.withStatusBits ready degraded hsFail) = (p.effect s).withStatusBits ready degraded hsFail := by
  cases p
  case createPlayback | becomeReady => exact absurd (h .ready (by decide)) (by decide)
  case degrade => exact absurd (h .degraded (by decide)) (by decide)
  case judgeHigh => exact absurd (h .hsFail (by decide)) (by decide)
  case raise status info => exact raise_withStatusBits s ready degraded hsFail status info
  case answer a => cases a <;> rfl
  all_goals rfl

theorem Task.effect_withStatusBits (t : Task) (h : ∀ e ∈ statusParts, e ∉ t.parts) :
    t.effect (s.withStatusBits ready degraded hsFail) = (t.effect s).withStatusBits ready degraded hsFail := by
  have hcancel : (s.withStatusBits ready degraded hsFail).cancelSet = s.cancelSet := rfl
  cases t with
  | prim p => exact p.effect_withStatusBits s ready degraded hsFail h
  | cancelTest n =>
    simp only [Task.effect, hcancel]
    split <;> rfl
  | records n words =>
    cases n with
    | zero => rfl
    | succ n =>
      simp only [Task.effect]
      split <;> rfl
  | _ => rfl

theorem Task.expand_withStatusBits (t : Task) :
    t.expand (s.withStatusBits ready degraded hsFail) = t.expand s := by
  cases t with
  | prim p => cases p <;> rfl
  | bursts n src => cases n <;> rfl
  | sweep n delta => cases n <;> rfl
  | records n words => cases n <;> rfl
  | writes addr values => cases values <;> rfl
  | _ => rfl

/-- Lines that write none of the status bits do the same whatever these are. -/
theorem runTasks_withStatusBits {s : State} {ts : List Task} (hr : s.resetScript = [])
    (h : ∀ e ∈ statusParts, e ∉ ts.flatMap Task.parts) :
    (s.withStatusBits ready degraded hsFail).runTasks ts = (s.runTasks ts).withStatusBits ready degraded hsFail := by
  revert hr h
  refine lines_induction
    (P := fun s ts => s.resetScript = [] → (∀ e ∈ statusParts, e ∉ ts.flatMap Task.parts) →
      (s.withStatusBits ready degraded hsFail).runTasks ts = (s.runTasks ts).withStatusBits ready degraded hsFail)
    ?_ ?_ ?_ ?_ s ts
  · intro s ts hb _ _
    rw [runTasks_ended s ts hb, runTasks_ended (s.withStatusBits ready degraded hsFail) ts hb]
  · intro s ts hb ht _ _
    rw [runTasks_waiting s ts hb ht, runTasks_waiting (s.withStatusBits ready degraded hsFail) ts hb ht]
    rfl
  · exact fun s _ _ _ _ => rfl
  · intro s t ts hb ht ih hr h
    have hhead : ∀ e ∈ statusParts, e ∉ t.parts := fun e he hmem =>
      h e he (List.mem_flatMap.mpr ⟨t, List.mem_cons_self, hmem⟩)
    rw [runTasks_line s t ts hb ht hr, runTasks_line (s.withStatusBits ready degraded hsFail) t ts hb ht hr,
      t.effect_withStatusBits s ready degraded hsFail hhead, t.expand_withStatusBits]
    refine ih ((t.effect_sameHost s).resetScript.trans hr) fun e he hmem => ?_
    rw [List.flatMap_append, List.mem_append] at hmem
    obtain hmem | hmem := hmem
    · exact hhead e he (t.parts_expand s hmem)
    · exact h e he (by rw [List.flatMap_cons, List.mem_append]; exact .inr hmem)

theorem begun_withStatusBits (i : Instr) :
    (s.withStatusBits ready degraded hsFail).begun i = (s.begun i).withStatusBits ready degraded hsFail := by
  cases i
  case setVolume | setBalance =>
    simp only [State.begun]
    split <;> rfl
  all_goals rfl

/-- Register 8 is the only one of which the status bits are a part (R271). -/
theorem intReg_withStatusBits {k : Nat} (h : k ≠ 8) :
    (s.withStatusBits ready degraded hsFail).intReg k = s.intReg k := by
  unfold State.intReg
  split
  case h_9 => exact absurd rfl h
  all_goals rfl

theorem program_withStatusBits {i : Instr} (h : i ≠ .getReg 8) :
    (s.withStatusBits ready degraded hsFail).program i = s.program i := by
  cases i
  case getReg k =>
    have hk : k.toNat ≠ 8 := fun hk => h (congrArg Instr.getReg (BitVec.eq_of_toNat_eq hk))
    simp only [State.program, intReg_withStatusBits s ready degraded hsFail hk]
  case setVolume | setBalance =>
    simp only [State.program, begun_withStatusBits]
    rfl
  all_goals rfl

end

/-- Settles O60: no line of these commands writes the status bits, and none of their lines is chosen by them. -/
theorem noCommandIsGatedByStatus : Obligations.NoCommandIsGatedByStatus := by
  intro i s ready degraded hsFail hr hbegin hstatus
  by_cases haddr : s.addressExists i
  · have haddr' : (s.withStatusBits ready degraded hsFail).addressExists i := by cases i <;> exact haddr
    have hparts : ∀ e ∈ statusParts, e ∉ (s.program i).flatMap Task.parts := fun e he hmem => by
      have hrow := parts_program s i hmem
      revert he hrow
      cases i
      case begin => exact absurd rfl hbegin
      all_goals cases e <;> simp [statusParts, instrParts]
    rw [exec_eq_next s i haddr, exec_eq_next _ i haddr', begun_withStatusBits, program_withStatusBits s _ _ _ hstatus,
      runTasks_withStatusBits ready degraded hsFail ((begun_resetScript s i).trans hr) hparts]
    rfl
  · have haddr' : ¬ (s.withStatusBits ready degraded hsFail).addressExists i := by cases i <;> exact haddr
    rw [exec_fault s i haddr, exec_fault _ i haddr']
    rfl

end Sys2Proof.Machine
end

section
/-!
PROOFS. The invariant of the machine (10_state.md R21 to R27, R24; R273): what stands behind a wait can stand there, the registers of
every command stay in range, and neither depends on when a hardware reset comes.
-/

namespace Sys2Proof.Machine

variable (s : State)

/-! ### What stands behind a wait (R273) -/

/-- A line or loop in which the command may come to stand in a wait. -/
def Task.samples : Task → Bool
  | .prim .wait | .prim .pollAgain | .prim .yield => true
  | .prim _ => false
  | _ => true

/-- Behind every line in which the command may come to wait, only lines that can stand behind a wait follow. -/
def waitsLast : List Task → Bool
  | [] => true
  | t :: ts => (!t.samples || ts.all Task.mayWait) && waitsLast ts

theorem waitsLast_cons_iff (t : Task) (ts : List Task) :
    waitsLast (t :: ts) = true ↔ (t.samples = true → ts.all Task.mayWait = true) ∧ waitsLast ts = true := by
  rw [waitsLast, Bool.and_eq_true, Bool.or_eq_true, Bool.not_eq_true']
  cases t.samples <;> simp

theorem waitsLast_append {ts us : List Task} (h : waitsLast ts = true) (hus : us.all Task.mayWait = true) :
    waitsLast (ts ++ us) = true := by
  induction ts with
  | nil =>
    induction us with
    | nil => rfl
    | cons u us ih =>
      rw [List.all_cons, Bool.and_eq_true] at hus
      exact (waitsLast_cons_iff u us).mpr ⟨fun _ => hus.2, ih hus.2⟩
  | cons t ts ih =>
    obtain ⟨htail, hts⟩ := (waitsLast_cons_iff t ts).mp h
    refine (waitsLast_cons_iff t (ts ++ us)).mpr ⟨fun ht => ?_, ih hts⟩
    rw [List.all_append, htail ht, hus]
    rfl

theorem waitsLast_of_mayWait {ts : List Task} (h : ts.all Task.mayWait = true) : waitsLast ts = true :=
  waitsLast_append (ts := []) rfl h

theorem mayWait_burstLines (src : Source) : (lines (burstLines src s)).all Task.mayWait = true := by
  simp [burstLines, lines, Task.mayWait, Prim.mayWait]

theorem Prim.expand_waitsLast (p : Prim) : waitsLast (p.expand s) = true := by
  cases p
  case wait | pollAgain =>
    simp only [Prim.expand]
    split <;> rfl
  case yield =>
    simp only [Prim.expand]
    split
    · split <;> rfl
    · rfl
  all_goals rfl

theorem waitsLast_stopRound (c : Cfg) (n : Nat) : waitsLast (stopRound c n) = true := by cases n <;> rfl

theorem Task.expand_waitsLast (t : Task) : waitsLast (t.expand s) = true := by
  cases t with
  | prim p => exact p.expand_waitsLast s
  | bursts n src =>
    cases n with
    | zero => rfl
    | succ n =>
      simp only [Task.expand]
      split
      · exact waitsLast_of_mayWait (by rw [List.all_append, mayWait_burstLines]; rfl)
      · rfl
  | sweep n delta =>
    cases n with
    | zero => rfl
    | succ n =>
      simp only [Task.expand]
      split <;> rfl
  | lowTest =>
    simp only [Task.expand]
    split <;> rfl
  | bringUpChain =>
    simp only [Task.expand]
    split <;> rfl
  | stopLoop n => exact waitsLast_stopRound s.cfg n
  | cancelTest n =>
    simp only [Task.expand]
    split
    · exact waitsLast_stopRound s.cfg n
    · rfl
  | writes addr values => cases values <;> rfl
  | records n words =>
    cases n with
    | zero => rfl
    | succ n =>
      simp only [Task.expand]
      split <;> rfl

/-- Only a yield comes to stand in a wait, and it leaves no line to run. -/
theorem Task.effect_stands (t : Task) (ht : s.todo = []) (h : (t.effect s).todo ≠ []) :
    t = .prim .yield ∧ t.expand s = [] := by
  obtain ⟨p, rfl⟩ | ⟨q, hq⟩ := t.effect_loop s
  · cases p
    case yield =>
      refine ⟨rfl, ?_⟩
      cases hbound : s.boundReached with
      | true => exact absurd (by simp [Task.effect, Prim.effect, hbound]) h
      | false => simp [Task.expand, Prim.expand, hbound]
    case raise status info => exact absurd (raise_todo s status info) h
    case answer a => cases a <;> exact absurd rfl h
    all_goals exact absurd ht h
  · rw [hq] at h
    exact absurd ht h

theorem expand_of_not_samples {t : Task} (h : t.samples = false) : t.expand s = [] := by
  cases t with
  | prim p => cases p <;> trivial
  | _ => cases h

/-- The lines put off, and those left to run behind them, can stand behind a wait. -/
structure WaitsInOrder (s : State) (ts : List Task) : Prop where
  running : s.todo = [] → waitsLast ts = true
  standing : s.todo ≠ [] → (s.todo ++ ts).all Task.mayWait = true

theorem WaitsInOrder.line {s : State} {t : Task} {ts : List Task} (h : WaitsInOrder s (t :: ts)) (ht : s.todo = []) :
    WaitsInOrder (t.effect s) (t.expand s ++ ts) := by
  obtain ⟨hbehind, hrest⟩ := (waitsLast_cons_iff t ts).mp (h.running ht)
  constructor
  · intro _
    cases hs : t.samples with
    | true => exact waitsLast_append (t.expand_waitsLast s) (hbehind hs)
    | false => rwa [expand_of_not_samples s hs]
  · intro hstands
    obtain ⟨rfl, hexp⟩ := t.effect_stands s ht hstands
    obtain htodo | htodo := Task.effect_todo s (.prim .yield) ht
    · exact absurd htodo hstands
    · rw [htodo, hexp, List.all_append, List.nil_append, hbehind rfl]
      rfl

theorem WaitsInOrder.runTasks {s : State} {ts : List Task} (hr : s.resetScript = []) (h : WaitsInOrder s ts) :
    WaitsInOrder (s.runTasks ts) [] := by
  refine runTasks_invariant (fun _ _ _ _ ht _ h => h.line ht) ?_ ?_ hr h
  · intro u us _ h
    refine ⟨fun _ => rfl, fun hne => ?_⟩
    have hall := h.standing hne
    rw [List.all_append, Bool.and_eq_true] at hall
    simpa using hall.1
  · intro u us _ ht h
    exact ⟨fun _ => rfl, fun _ => by simpa [State.putOff] using h.standing ht⟩

theorem waitsInOrder_program (i : Instr) : WaitsInOrder (s.begun i) (s.program i) := by
  refine ⟨fun _ => ?_, fun hne => absurd (begun_todo s i) hne⟩
  cases i
  case getReg k =>
    simp only [State.program]
    split <;> rfl
  case rbWrite | rbRead | setVolume | setBalance =>
    simp only [State.program]
    split <;> rfl
  all_goals rfl

/-! ### The registers in range (R21 to R27) -/

/-- The part of the invariant that is about registers and the store. -/
structure State.Sound (s : State) : Prop where
  cfg : s.cfg.wf = true
  rdi : s.rdi < s.cfg.capacity
  cnt : s.cnt ≤ s.cfg.capacity
  wri : s.wri = (s.rdi + s.cnt) % s.cfg.capacity
  store : Memory.wf s.store = true
  range : ∀ c ∈ s.store, c.1 < storeSize s.cfg
  vol : s.vol ≤ Config.volMax
  bal : s.bal.natAbs ≤ Config.balMax
  pulse : s.pulse = false

theorem State.Inv.sound {s : State} (h : s.Inv) : s.Sound :=
  ⟨h.cfg, h.rdi, h.cnt, h.wri, h.store, h.range, h.vol, h.bal, h.pulse⟩

/-- The parts that it is about. -/
def soundParts : List Part := [.rdi, .wri, .cnt, .store, .vol, .bal, .pulse]

theorem State.Sound.of_same {s t : State} (h : s.Sound) (hcfg : t.cfg = s.cfg) (hsame : ∀ e ∈ soundParts, e.Same s t) :
    t.Sound := by
  have hrdi : t.rdi = s.rdi := hsame .rdi (by decide)
  have hwri : t.wri = s.wri := hsame .wri (by decide)
  have hcnt : t.cnt = s.cnt := hsame .cnt (by decide)
  have hstore : t.store = s.store := hsame .store (by decide)
  have hvol : t.vol = s.vol := hsame .vol (by decide)
  have hbal : t.bal = s.bal := hsame .bal (by decide)
  have hpulse : t.pulse = s.pulse := hsame .pulse (by decide)
  constructor
  case cfg => exact hcfg ▸ h.cfg
  case rdi => rw [hrdi, hcfg]; exact h.rdi
  case cnt => rw [hcnt, hcfg]; exact h.cnt
  case wri => rw [hwri, hrdi, hcnt, hcfg]; exact h.wri
  case store => rw [hstore]; exact h.store
  case range => rw [hstore, hcfg]; exact h.range
  case vol => rw [hvol]; exact h.vol
  case bal => rw [hbal]; exact h.bal
  case pulse => rw [hpulse]; exact h.pulse

/-- Lines that write none of these parts keep them in range. -/
theorem State.Sound.runTasks {s : State} (h : s.Sound) (hr : s.resetScript = []) (ht : s.todo = []) {ts : List Task}
    (hparts : ∀ e ∈ soundParts, e ∉ ts.flatMap Task.parts) : (s.runTasks ts).Sound :=
  h.of_same (runTasks_sameHost hr ts).cfg fun e he => (runTasks_same ht hr (hparts e he)).1

theorem State.Sound.ringReady {s : State} (h : s.Sound) (hr : s.resetScript = []) : RingReady s := ⟨h.rdi, h.cnt, h.wri, hr⟩

theorem State.Sound.accept_respond {s : State} (h : s.Sound) (st : Status) (v : Word) (p : List Byte) :
    (s.accept.respond st v p).Sound := { h with }

theorem State.Sound.ringCleared {s : State} (h : s.Sound) : s.ringCleared.Sound :=
  { h with
    rdi := Nat.zero_lt_of_lt h.rdi
    cnt := Nat.zero_le _
    wri := (Nat.zero_mod _).symm }

theorem State.Sound.chunkTaken {s : State} (h : s.Sound) (hr : s.resetScript = []) (hempty : s.cnt ≠ 0) :
    s.chunkTaken.Sound :=
  have hready := (h.ringReady hr).chunkTaken hempty
  { h with rdi := hready.rdi, cnt := hready.cnt, wri := hready.wri }

theorem State.Sound.chunkWritten {s : State} (h : s.Sound) (hr : s.resetScript = []) (hfull : s.cnt ≠ s.cfg.capacity)
    {chunk : List Byte} (hlen : chunk.length = 32) : (s.chunkWritten chunk).Sound :=
  have hready := (h.ringReady hr).chunkWritten hfull chunk
  { h with
    rdi := hready.rdi
    cnt := hready.cnt
    wri := hready.wri
    store := Memory.wf_writeBytes _ _ _ h.store
    range := by
      intro c hc
      obtain ⟨-, hlt⟩ | hold := Memory.mem_writeBytes hc
      · have hwri : s.wri + 1 ≤ s.cfg.capacity := (h.ringReady hr).wri_lt
        have hmul := Nat.mul_le_mul_right 32 hwri
        simp only [chunkAddr, storeSize, Config.chunkSize, hlen, chunkWritten_cfg] at hlt ⊢
        omega
      · exact h.range c hold }

/-! ### BEGIN's first lines (R236) -/

/-- The state of BEGIN after its one sample of the ready line. -/
def State.begunPlayback (s : State) : State :=
  { s.created.accept with
    seq := { s.seq with absent := !s.pollAt 0 }, pollScript := s.pollScript.tail, polled := s.polled + 1
    trace := (beginEvents s (s.pollAt 0)).reverse ++ s.trace }

/-- The lines of BEGIN after its sample. -/
def beginRest : List Task := [.lowTest] ++ lines [.judgeLow] ++ [.bringUpChain] ++ lines [.becomeReady, .answer .bringUp]

/-- Lines that neither end the command nor wait are run one after the other. -/
theorem runPrims_eq_foldl {ps : List Prim}
    (hps : ∀ p ∈ ps, ∀ u : State, (p.run u).busy = u.busy ∧ (p.run u).todo = u.todo ∧ (p.run u).resetScript = u.resetScript)
    {s : State} (hb : s.busy = true) (ht : s.todo = []) (hr : s.resetScript = []) :
    s.runPrims ps = ps.foldl (fun u p => p.run u) s := by
  induction ps generalizing s with
  | nil => rfl
  | cons p ps ih =>
    obtain ⟨hp, hps⟩ := List.forall_mem_cons.mp hps
    obtain ⟨hb', ht', hr'⟩ := hp s
    rw [runPrims_cons, runPrim_now s p hb ht hr, ih hps (hb'.trans hb) (ht'.trans ht) (hr'.trans hr)]
    rfl

theorem accept_runTasks_beginLines (hr : s.resetScript = []) : s.accept.runTasks (lines beginLines) = s.begunPlayback := by
  have hkeeps : ∀ p ∈ beginLines, ∀ u : State,
      (p.run u).busy = u.busy ∧ (p.run u).todo = u.todo ∧ (p.run u).resetScript = u.resetScript := by
    simp only [beginLines, List.forall_mem_cons]
    exact ⟨fun _ => ⟨rfl, rfl, rfl⟩, fun _ => ⟨rfl, rfl, rfl⟩, fun _ => ⟨rfl, rfl, rfl⟩, fun _ => ⟨rfl, rfl, rfl⟩,
      fun _ => ⟨rfl, rfl, rfl⟩, fun _ => ⟨rfl, rfl, rfl⟩, fun _ h => nomatch h⟩
  rw [runTasks_lines, runPrims_eq_foldl hkeeps (s := s.accept) rfl rfl hr]
  cases hp : s.rdyPull <;>
    simp [beginLines, Prim.run, State.setPullup, State.createPlayback, State.begunPlayback, State.created, State.accept,
      State.samplePoll, State.pollAt, beginEvents, hp]

/-- BEGIN with no hardware reset coming is its lines after the sample. -/
theorem exec_begin_eq (hr : s.resetScript = []) : exec .begin s = .next (s.begunPlayback.runTasks beginRest) := by
  have hprogram : s.program .begin = lines beginLines ++ beginRest := rfl
  rw [exec_eq_next s .begin trivial, hprogram, runTasks_append]
  exact congrArg (fun u : State => Host.Outcome.next (u.runTasks beginRest)) (accept_runTasks_beginLines s hr)

theorem State.Sound.begunPlayback {s : State} (h : s.Sound) : s.begunPlayback.Sound :=
  { h with vol := Nat.zero_le _, bal := Nat.zero_le _, pulse := rfl }

/-! ### Every command keeps its registers in range -/

/-- The operand that a command writes before its first line is in range. -/
theorem State.Sound.begun {s : State} (h : s.Sound) (i : Instr) : (s.begun i).Sound := by
  cases i
  case setVolume v =>
    simp only [State.begun]
    split
    · exact { h with }
    · next hv => exact { h with vol := Nat.le_of_not_lt hv }
  case setBalance b =>
    simp only [State.begun]
    split
    · exact { h with }
    · next hb => exact { h with bal := Nat.le_of_not_lt hb }
  all_goals exact { h with }

/-- A command that is none of the ring's, and not BEGIN, has no line that writes a part but the mode mirror. -/
theorem parts_program_bus (i : Instr) (hring : isRingCommand i = false ∨ i = .rbSpace ∨ i = .rbAvail ∨ i = .rbFree)
    (hbegin : i ≠ .begin) : (s.program i).flatMap Task.parts ⊆ [.modeMir] := by
  cases i
  case begin => exact absurd rfl hbegin
  case rbReset | rbWrite | rbRead => simp [isRingCommand] at hring
  case getReg k =>
    simp only [State.program]
    split <;> exact List.nil_subset _
  case setVolume | setBalance =>
    simp only [State.program]
    split <;> exact List.nil_subset _
  case stopSong => exact List.Subset.refl [Part.modeMir]
  all_goals exact List.nil_subset _

theorem State.Sound.exec {s t : State} {i : Instr} (h : s.Sound) (hr : s.resetScript = []) (hwf : i.wellFormed = true)
    (hexec : exec i s = .next t) : t.Sound := by
  have haddr := ((exec_eq_next_iff s i t).mp hexec).1
  have hof : ∀ u : State, Machine.exec i s = .next u → u.Sound → t.Sound := fun u hu hsound =>
    Host.Outcome.next.inj (hu.symm.trans hexec) ▸ hsound
  have hraise : ∀ st v, (s.accept.raise st v).Sound := fun st v =>
    (h.begun .rbSpace).of_same (raise_cfg ..) fun e _ => Prim.effect_same s.accept (.raise st v) (by simp [Prim.parts])
  have hrun : (∀ e ∈ soundParts, e ∉ (s.program i).flatMap Task.parts) → t.Sound := fun hparts => by
    rw [exec_next_eq hexec]
    exact (h.begun i).runTasks ((begun_resetScript s i).trans hr) (begun_todo s i) hparts
  cases i
  case rbReset => exact hof _ (exec_rbReset_eq s hr) (h.ringCleared.accept_respond _ _ _)
  case rbWrite chunk =>
    by_cases hfull : s.cnt = s.cfg.capacity
    · exact hof _ (exec_rbWrite_full s chunk hr hfull) (hraise _ _)
    · exact hof _ (exec_rbWrite_stored s chunk hr hfull (haddr.resolve_left hfull))
        ((h.chunkWritten hr hfull (beq_iff_eq.mp hwf)).accept_respond _ _ _)
  case rbRead =>
    by_cases hempty : s.cnt = 0
    · exact hof _ (exec_rbRead_empty s hr hempty) (hraise _ _)
    · exact hof _ (exec_rbRead_taken s hr hempty (haddr.resolve_left hempty))
        ((h.chunkTaken hr hempty).accept_respond _ _ _)
  case begin =>
    exact hof _ (exec_begin_eq s hr) (h.begunPlayback.runTasks hr rfl (by decide))
  all_goals
    refine hrun fun e he hmem => ?_
    obtain rfl := List.mem_singleton.mp (parts_program_bus s _ (by simp [isRingCommand]) (by simp) hmem)
    exact absurd he (by decide)

/-! ### The invariant after a step -/

/-- The invariant does not speak of the resets to come. -/
theorem State.Inv.withResets {s : State} (h : s.Inv) (rs : List Nat) : (s.withResets rs).Inv := { h with }

/-- A run of lines that close what they open, end in an answer and wait in order leads from registers in range to the invariant. -/
theorem inv_runTasks {s : State} {ts : List Task} (hr : s.resetScript = []) (hb : s.busy = true) (ht : s.todo = [])
    (hbr : Bracketing s ts) (hans : Answering s ts) (hord : WaitsInOrder s ts) (hsound : (s.runTasks ts).Sound) :
    (s.runTasks ts).Inv := by
  have hone := runTasks_answeredOnce hb ht hr ts
  have hbr' := hbr.runTasks hr
  have hans' := hans.runTasks hr
  have hord' := hord.runTasks hr
  refine { hsound with idle := fun hended => ⟨hbr'.idle_of_ended hended, ?_⟩, waiting := fun hbusy => ?_ }
  · obtain ⟨hbusy, -⟩ | ⟨-, htodo, -⟩ := hone
    · exact absurd hbusy (by simp [hended])
    · exact htodo
  · have hend := hans' hbusy
    obtain ⟨-, -, hnil | ⟨us, hus⟩⟩ | ⟨hended, -⟩ := hone
    · rw [hnil] at hend
      cases hend
    · exact ⟨⟨us, hus⟩, by simpa using hord'.standing (by simp [hus]), hbr'.bracketed_todo hbusy, by simpa using hend⟩
    · exact absurd hbusy (by simp [hended])

/-- Beginning a command keeps the invariant. -/
theorem State.Inv.exec {s t : State} {i : Instr} (h : s.Inv) (hr : s.resetScript = []) (hb : s.busy = false)
    (hwf : i.wellFormed = true) (hexec : exec i s = .next t) : t.Inv := by
  have hsound := h.sound.exec hr hwf hexec
  rw [exec_next_eq hexec] at hsound ⊢
  exact inv_runTasks ((begun_resetScript s i).trans hr) (begun_busy s i) (begun_todo s i)
    (bracketing_program s i (h.idle hb).1) (answering_program s i) (waitsInOrder_program s i) hsound

/-- A later step of a command keeps the invariant. -/
theorem State.Inv.resume {s : State} (h : s.Inv) (hr : s.resetScript = []) (hb : s.busy = true) : s.resume.Inv := by
  obtain ⟨-, hmay, -, hend⟩ := h.waiting hb
  have hsound : s.resume.Sound := h.sound.of_same (resume_sameHost hr).cfg fun e he => by
    refine h.resume_same hb hr ?_
    revert he
    cases e <;> decide
  exact inv_runTasks (s := s.woken) hr hb rfl (h.bracketing_woken hb) (fun _ => hend)
    ⟨fun _ => waitsLast_of_mayWait hmay, fun hne => absurd rfl hne⟩ hsound

/-- So does answering a message that spells no command. -/
theorem State.Inv.illegal {s : State} (h : s.Inv) (hr : s.resetScript = []) (hb : s.busy = false) :
    (s.accept.runTasks (lines [.raise .illegalCommand 0])).Inv := by
  have hrun : s.accept.runTasks (lines [.raise .illegalCommand 0]) = s.accept.respond .illegalCommand 0 [] :=
    accept_runPrim_raise s .illegalCommand 0 hr (h.idle hb).1
  have hsound : (s.accept.respond .illegalCommand 0 []).Sound := h.sound.accept_respond _ _ _
  rw [hrun]
  exact { hsound with idle := fun _ => ⟨(h.idle hb).1, rfl⟩, waiting := fun hf => nomatch hf }

/-- The state with other messages at the port keeps the invariant. -/
theorem State.Inv.withInbox {s : State} (h : s.Inv) (ms : List Message) : State.Inv { s with inbox := ms } := { h with }

/-- Every step that no hardware reset can cut keeps the invariant. -/
theorem State.Inv.step_without_reset {s t : State} (h : s.Inv) (hr : s.resetScript = []) (hstep : step s = .next t) :
    t.Inv := by
  obtain ⟨hb, rfl⟩ | ⟨-, rfl⟩ | ⟨hb, m, ms, i, -, hm, hexec⟩ | ⟨hb, m, ms, -, rfl⟩ := step_cases hr hstep
  · exact h.resume hr hb
  · exact h
  · exact (h.withInbox ms).exec hr hb (encodeOfDecodeIsTheMessage m i hm).2 hexec
  · exact (h.withInbox ms).illegal hr hb

/-! ### A hardware reset that comes -/

/-- What a hardware reset leaves meets the invariant, the parameters being what they were. -/
theorem ResetHit.inv {s t : State} {rest : List Nat} {evs : List Event} (h : ResetHit s t rest evs) (hcfg : s.cfg.wf = true)
    (hstore : t.store = []) : t.Inv := by
  have hwf : t.cfg.wf = true := h.cfg ▸ hcfg
  have hcap : 0 < t.cfg.capacity := by
    simp only [Cfg.wf, Bool.and_eq_true, decide_eq_true_eq] at hwf
    omega
  constructor
  case cfg => exact hwf
  case rdi => rw [h.rdi]; exact hcap
  case cnt => rw [h.cnt]; exact Nat.zero_le _
  case wri => rw [h.wri, h.rdi, h.cnt]; exact (Nat.zero_mod _).symm
  case store => rw [hstore]; rfl
  case range => simp [hstore]
  case vol => rw [h.vol]; exact Nat.zero_le _
  case bal => rw [h.bal]; exact Nat.zero_le _
  case pulse =>
    have hsel := h.selCtl
    simpa [State.selCtl, h.busMode] using hsel
  case idle => exact fun _ => ⟨h.busMode, h.todo⟩
  case waiting => exact fun hf => absurd (h.busy.symm.trans hf) (by decide)

/-- With a hardware reset coming, lines that lead to the invariant without one lead to it too. -/
theorem inv_runTasks_withResets {s : State} {ts : List Task} (hr : s.resetScript = []) (hcfg : s.cfg.wf = true)
    (hbr : Bracketing s ts) (hinv : (s.runTasks ts).Inv) (n : Nat) (rest : List Nat) :
    ((s.withResets (n :: rest)).runTasks ts).Inv := by
  obtain ⟨evs, hevs⟩ := exists_resetStrikes hr hbr
  obtain ⟨m, -, hcomes⟩ | ⟨a, b, -, hhit, hstore⟩ := hevs.comesOrStrikes n rest
  · rw [hcomes]
    exact hinv.withResets _
  · exact hhit.inv hcfg hstore

/-- A step with a hardware reset coming after it begins keeps the invariant. -/
theorem State.Inv.step_before_reset {s t : State} (h : s.Inv) (hr : s.resetScript = []) (n : Nat) (rest : List Nat)
    (hstep : step (s.withResets ((n + 1) :: rest)) = .next t) : t.Inv := by
  cases hb : s.busy with
  | true =>
    have hresume : step (s.withResets ((n + 1) :: rest)) = .next ((s.woken.withResets ((n + 1) :: rest)).runTasks s.todo) := by
      simp only [step, withResets_resetScript, withResets_busy, hb]
      rfl
    obtain rfl := Host.Outcome.next.inj (hresume.symm.trans hstep)
    exact inv_runTasks_withResets (s := s.woken) hr h.cfg (h.bracketing_woken hb) (h.resume hr hb) _ _
  | false =>
    cases hin : s.inbox with
    | nil =>
      have hidle : step (s.withResets ((n + 1) :: rest)) = .next (s.withResets (n :: rest)) := by
        simp only [step, State.withResets, hb, hin]
        rfl
      obtain rfl := Host.Outcome.next.inj (hidle.symm.trans hstep)
      exact h.withResets _
    | cons m ms =>
      have htake : step (s.withResets ((n + 1) :: rest)) = takeMessage m ms (s.withResets ((n + 1) :: rest)) :=
        step_of_message_before_reset rfl hb hin
      have hinbox := h.withInbox ms
      rw [htake] at hstep
      cases hm : decode m with
      | ok i =>
        rw [takeMessage_of_decode _ hm] at hstep
        have haddr : ({ s with inbox := ms } : State).addressExists i := by
          cases i
          case rbWrite => exact .inr (h.sound.ringReady hr).wri_lt
          case rbRead => exact .inr h.rdi
          all_goals exact trivial
        have hexec := exec_withResets { s with inbox := ms } haddr (n :: rest)
        obtain rfl := Host.Outcome.next.inj (hexec.symm.trans hstep)
        exact inv_runTasks_withResets (s := State.begun { s with inbox := ms } i) (ts := State.program { s with inbox := ms } i)
          ((begun_resetScript { s with inbox := ms } i).trans hr) ((begun_cfg { s with inbox := ms } i).symm ▸ h.cfg)
          (bracketing_program { s with inbox := ms } i (h.idle hb).1)
          (hinbox.exec hr hb (encodeOfDecodeIsTheMessage m i hm).2 (exec_eq_next { s with inbox := ms } i haddr)) n rest
      | error e =>
        rw [takeMessage_of_illegal _ hm] at hstep
        obtain rfl := Host.Outcome.next.inj hstep
        exact inv_runTasks_withResets (s := State.accept { s with inbox := ms }) hr h.cfg
          (bracketing_illegal { s with inbox := ms } (h.idle hb).1) (hinbox.illegal hr hb) n rest

/-- Settles O4: with no hardware reset coming, by the shape of the lines; with one, by what it leaves where it strikes. -/
theorem stepKeepsTheInvariant : Obligations.StepKeepsTheInvariant := by
  intro s t hinv hstep
  match hr : s.resetScript with
  | [] => exact hinv.step_without_reset hr hstep
  | 0 :: rest =>
    have hreset : step s = .next s.hardwareReset := by simp only [step, hr]
    obtain rfl := Host.Outcome.next.inj (hreset.symm.trans hstep)
    have hs : s.withResets (0 :: rest) = s := by rw [← hr]; rfl
    have hhit := resetHit_hardwareReset s rest
    rw [hs] at hhit
    exact hhit.inv hinv.cfg rfl
  | (n + 1) :: rest =>
    have hs : (s.withResets []).withResets ((n + 1) :: rest) = s := by rw [← hr]; rfl
    exact (hinv.withResets []).step_before_reset rfl n rest (by rw [hs]; exact hstep)

/-- Settles O3: the reset state is what a hardware reset leaves of it. -/
theorem resetSatisfiesTheInvariant : Obligations.ResetSatisfiesTheInvariant where
  cfg := by decide
  rdi := by decide
  cnt := by decide
  wri := rfl
  store := rfl
  range _ hc := nomatch hc
  vol := by decide
  bal := by decide
  pulse := rfl
  idle _ := ⟨rfl, rfl⟩
  waiting hf := nomatch hf

end Sys2Proof.Machine
end

section
/-!
PROOFS. The commands that are a few register frames and an answer (42_register_protocol.md R183 to R188, 45_playback_controller.md
R247 to R262), against a ready device: line after line inside a transaction, frame after frame, and the answer after the last.
-/

namespace Sys2Proof.Machine

variable (s : State) (b : BusMode) (evs : List Event) (p x : Nat) (q : Sequencer)

/-! ### The state inside a transaction, line by line -/

/-- The state of a command that began in `s`, inside a transaction or (for `b` idle) between two: as `State.afterBus` says, with the
mode `b`. -/
def State.onBus (s : State) (b : BusMode) (evs : List Event) (p x : Nat) (q : Sequencer) : State :=
  { s.afterBus evs p x q with busMode := b }

theorem afterBus_eq_onBus : s.afterBus evs p x q = s.onBus .idle evs p x q := rfl

/-- A state is where no part of the command has run yet. -/
theorem eq_onBus : s = s.onBus s.busMode [] 0 0 s.seq := rfl

theorem onBus_cfg : (s.onBus b evs p x q).cfg = s.cfg := rfl
theorem onBus_seq : (s.onBus b evs p x q).seq = q := rfl

theorem onBus_pollAt (k : Nat) : (s.onBus b evs p x q).pollAt k = s.pollAt (p + k) := afterBus_pollAt s evs p x q k

theorem onBus_rxAt (k : Nat) : (s.onBus b evs p x q).rxAt k = s.rxAt (x + k) := afterBus_rxAt s evs p x q k

theorem onBus_emit (e : Event) : (s.onBus b evs p x q).emit e = s.onBus b (evs ++ [e]) p x q := by
  simp [State.onBus, State.afterBus, State.emit]

theorem onBus_transfer (out : Byte) :
    (s.onBus b evs p x q).transfer out = s.onBus b (evs ++ [.xfer out (s.rxAt x)]) p (x + 1) q := by
  have hrx : (s.onBus b evs p x q).rxAt 0 = s.rxAt x := onBus_rxAt s b evs p x q 0
  unfold State.transfer
  rw [hrx]
  simp [State.onBus, State.afterBus, Nat.add_assoc]

theorem onBus_samplePoll :
    (s.onBus b evs p x q).samplePoll = s.onBus b (evs ++ [.poll (s.pollAt p)]) (p + 1) x q := by
  have hpoll : (s.onBus b evs p x q).pollAt 0 = s.pollAt p := onBus_pollAt s b evs p x q 0
  unfold State.samplePoll
  rw [hpoll]
  simp [State.onBus, State.afterBus, Nat.add_assoc]

variable {s} (hb : s.busy = true) (ht : s.todo = []) (hr : s.resetScript = [])
include hb ht hr

/-- With no hardware reset coming, each line of a command in progress has its effect. -/
theorem onBus_runPrim (l : Prim) : (s.onBus b evs p x q).runPrim l = l.run (s.onBus b evs p x q) :=
  runPrim_now (s.onBus b evs p x q) l hb ht hr

theorem onBus_openBus (m : Mode) :
    (s.onBus b evs p x q).runPrim (.openBus m) = s.onBus (.active m) (evs ++ [.opened m]) p x q :=
  (onBus_runPrim b evs p x q hb ht hr _).trans (onBus_emit s (.active m) evs p x q (.opened m))

theorem onBus_closeBus : (s.onBus b evs p x q).runPrim .closeBus = s.onBus .idle (evs ++ [.closed]) p x q :=
  (onBus_runPrim b evs p x q hb ht hr _).trans (onBus_emit s .idle evs p x q .closed)

theorem onBus_send (out : Byte) :
    (s.onBus b evs p x q).runPrim (.send out) = s.onBus b (evs ++ [.xfer out (s.rxAt x)]) p (x + 1) q :=
  (onBus_runPrim b evs p x q hb ht hr _).trans (onBus_transfer s b evs p x q out)

theorem onBus_sendReadHi :
    (s.onBus b evs p x q).runPrim .sendReadHi = s.onBus b (evs ++ [.xfer (hiByte q.readValue) (s.rxAt x)]) p (x + 1) q :=
  (onBus_runPrim b evs p x q hb ht hr _).trans (onBus_transfer s b evs p x q (hiByte q.readValue))

theorem onBus_sendReadLo :
    (s.onBus b evs p x q).runPrim .sendReadLo = s.onBus b (evs ++ [.xfer (loByte q.readValue) (s.rxAt x)]) p (x + 1) q :=
  (onBus_runPrim b evs p x q hb ht hr _).trans (onBus_transfer s b evs p x q (loByte q.readValue))

omit hr in
/-- A ready wait against a ready device is one sample. -/
theorem onBus_wait (hd : DeviceReady s (p + 1)) :
    (s.onBus b evs p x q).runPrim .wait = s.onBus b (evs ++ [.poll true]) (p + 1) x q.waited := by
  have hpoll : s.pollAt p = true := hd.2 p (Nat.lt_succ_self p)
  have hready : (s.onBus b evs p x q.waited).pollAt 0 = true := (onBus_pollAt s b evs p x q.waited 0).trans hpoll
  have hsample := onBus_samplePoll s b evs p x q.waited
  rw [hpoll] at hsample
  exact (onBus_runPrim b evs p x q hb ht hd.1 _).trans ((pollOnce_ready _ hready).trans hsample)

/-! ### Frames one after the other -/

omit hr

theorem onBus_runPrims_regWriteLines (addr : Byte) (v : Half) (hd : DeviceReady s (p + 2)) :
    (s.onBus b evs p x q).runPrims (regWriteLines addr v) =
      s.afterBus (evs ++ writeEvents s x addr v) (p + 2) (x + 4) q.waited := by
  have hframe := afterBus_afterBus s evs p x q (writeEvents s x addr v) 2 4 q.waited
  have hevents : writeEvents (s.onBus b evs p x q) 0 addr v = writeEvents s x addr v := afterBus_writeEvents s evs p x q 0 addr v
  rw [runPrims_regWriteLines (s.onBus b evs p x q) addr v hb ht (hd.afterBus evs x q), hevents]
  exact hframe

/-- The register pair of the WRAM: a write frame of the address, then a read frame of the data (R185). -/
theorem onBus_runPrims_wramReadLines (ext : Half) (hd : DeviceReady s (p + 4)) :
    (s.onBus b evs p x q).runPrims (wramReadLines ext) =
      s.afterBus (evs ++ wramReadEvents s x ext) (p + 4) (x + 8) (q.received (readAt s (x + 4))) := by
  rw [wramReadLines, runPrims_append, onBus_runPrims_regWriteLines b evs p x q hb ht _ _ (hd.mono (by omega)),
    afterBus_runPrims_regReadLines s _ _ _ _ _ hb ht (hd.mono (by omega)), List.append_assoc]
  rfl

omit b

theorem afterBus_runPrims_regWriteLines (addr : Byte) (v : Half) (hd : DeviceReady s (p + 2)) :
    (s.afterBus evs p x q).runPrims (regWriteLines addr v) =
      s.afterBus (evs ++ writeEvents s x addr v) (p + 2) (x + 4) q.waited :=
  onBus_runPrims_regWriteLines .idle evs p x q hb ht addr v hd

/-- The register pair of the WRAM: two write frames (R185). -/
theorem afterBus_runPrims_wramWriteLines (ext v : Half) (hd : DeviceReady s (p + 4)) :
    (s.afterBus evs p x q).runPrims (wramWriteLines ext v) =
      s.afterBus (evs ++ writeEvents s x 0x07 ext ++ writeEvents s (x + 4) 0x06 v) (p + 4) (x + 8) q.waited := by
  rw [wramWriteLines, runPrims_append, afterBus_runPrims_regWriteLines evs p x q hb ht _ _ (hd.mono (by omega)),
    afterBus_runPrims_regWriteLines _ _ _ _ hb ht _ _ (hd.mono (by omega))]
  rfl

/-- The frame that writes back the 16 bits read last is the write frame of that value (R262). -/
theorem afterBus_runPrims_regWriteBackLines (addr : Byte) (hd : DeviceReady s (p + 2)) :
    (s.afterBus evs p x q).runPrims (regWriteBackLines addr) =
      s.afterBus (evs ++ writeEvents s x addr q.readValue) (p + 2) (x + 4) q.waited := by
  obtain hr := hd.1
  rw [afterBus_eq_onBus, regWriteBackLines]
  simp only [runPrims_cons, runPrims_nil]
  rw [onBus_openBus _ _ _ _ _ hb ht hr, onBus_wait _ _ _ _ _ hb ht (hd.mono (by omega)),
    onBus_send _ _ _ _ _ hb ht hr, onBus_send _ _ _ _ _ hb ht hr, onBus_sendReadHi _ _ _ _ _ hb ht hr,
    onBus_sendReadLo _ _ _ _ _ hb ht hr, onBus_wait _ _ _ _ _ hb ht hd, onBus_closeBus _ _ _ _ _ hb ht hr]
  simp only [List.append_assoc]
  rfl

omit hb ht

/-! ### The answer after the last frame -/

/-- A command that is frames and then an answer has, once it has sent the frames, sent that answer and written no register. -/
theorem completes_of_frames {i : Instr} {ls : List Prim} {a : Answer} {v : Word} (hr : s.resetScript = [])
    (hexec : exec i s = .next (s.accept.runPrims (ls ++ [.answer a])))
    (hframes : s.accept.runPrims ls = s.accept.afterBus evs p x q)
    (hanswer : (s.accept.afterBus evs p x q).answer a = (s.accept.afterBus evs p x q).respond .ok v []) :
    ∃ t, exec i s = .next t ∧ SameRegisters s t ∧ t.busMode = .idle ∧ Ended s t ⟨.ok, v, []⟩ evs p x := by
  have hrun : s.accept.runPrims (ls ++ [.answer a]) = (s.accept.afterBus evs p x q).respond .ok v [] := by
    rw [runPrims_append, hframes, ← hanswer]
    exact accept_afterBus_answer s evs p x q a hr
  rw [hrun] at hexec
  exact ⟨_, hexec, sameRegisters_afterBus_respond s _ _ _ _ _ _ _, rfl, ended_afterBus_respond s _ _ _ _ _ _ _⟩

/-! ### The obligations -/

/-- Settles O30: one read frame, and the answer is what it received. -/
theorem regReadCompletes : Obligations.RegReadCompletes := fun s addr hd =>
  completes_of_frames _ _ _ _ hd.1 rfl (runPrims_regReadLines s.accept addr rfl rfl hd.accept) rfl

/-- Settles O31: one write frame. -/
theorem regWriteCompletes : Obligations.RegWriteCompletes := fun s addr value hd =>
  completes_of_frames _ _ _ _ hd.1 rfl (runPrims_regWriteLines s.accept addr value rfl rfl hd.accept) rfl

/-- Settles O32: a write frame, then a read frame, and the answer is what it received. -/
theorem wramReadCompletes : Obligations.WramReadCompletes := by
  intro s ext hd
  have hframes := onBus_runPrims_wramReadLines (s := s.accept) s.busMode [] 0 0 s.seq rfl rfl ext hd.accept
  exact completes_of_frames _ _ _ _ hd.1 rfl hframes rfl

/-- Settles O33: two write frames. -/
theorem wramWriteCompletes : Obligations.WramWriteCompletes := by
  intro s ext value hd
  have hframes : s.accept.runPrims (wramWriteLines ext value) =
      s.accept.afterBus (writeEvents s 0 0x07 ext ++ writeEvents s 4 0x06 value) 4 8 s.seq.waited := by
    rw [wramWriteLines, runPrims_append, runPrims_regWriteLines s.accept _ _ rfl rfl (hd.accept.mono (by omega)),
      afterBus_runPrims_regWriteLines _ _ _ _ rfl rfl _ _ hd.accept]
    rfl
  exact completes_of_frames _ _ _ _ hd.1 rfl hframes rfl

/-- Settles O51: the tone is written before the frame that sends it. -/
theorem setToneCompletes : Obligations.SetToneCompletes := by
  intro s n0 n1 n2 n3 hd
  have hframes := runPrims_regWriteLines (State.accept { s with tone := toneValue n0 n1 n2 n3 }) s.cfg.regTone
    (toneValue n0 n1 n2 n3) rfl rfl hd.accept
  have hrun := runPrims_append (State.accept { s with tone := toneValue n0 n1 n2 n3 })
    (regWriteLines s.cfg.regTone (toneValue n0 n1 n2 n3)) [.answer (.value (zextHalf (toneValue n0 n1 n2 n3)))]
  rw [hframes] at hrun
  have hsent := hrun.trans (accept_afterBus_answer { s with tone := toneValue n0 n1 n2 n3 } _ 2 4 _ _ hd.1)
  exact ⟨_, congrArg Host.Outcome.next hsent, sameRegisters_afterBus_respond _ _ _ _ _ _ _ _, rfl,
    { ended_afterBus_respond { s with tone := toneValue n0 n1 n2 n3 } _ 2 4 _ .ok _ [] with }⟩

/-- Settles O52: the answer after the read frame says whether the status register read neither all zeros nor all ones. -/
theorem isConnectedCompletes : Obligations.IsConnectedCompletes := by
  intro s hd
  have hvalue : boolValue (decide (readAt s 0 ≠ 0x0000) && decide (readAt s 0 ≠ 0xFFFF)) =
      if readAt s 0 ≠ 0x0000 ∧ readAt s 0 ≠ 0xFFFF then 1 else 0 := by simp [boolValue]
  exact completes_of_frames _ _ _ _ hd.1 rfl (runPrims_regReadLines s.accept s.cfg.regStatus rfl rfl hd.accept)
    (congrArg (State.respond _ .ok · []) hvalue)

/-- Settles O53: one read frame, and the answer is what it received. -/
theorem getTimeCompletes : Obligations.GetTimeCompletes := fun s hd =>
  completes_of_frames _ _ _ _ hd.1 rfl (runPrims_regReadLines s.accept s.cfg.regTime rfl rfl hd.accept) rfl

/-- Settles O54: two write frames of 0. -/
theorem clrTimeWritesZeroTwice : Obligations.ClrTimeWritesZeroTwice := by
  intro s hd
  have hframes : s.accept.runPrims (regWriteLines s.cfg.regTime 0 ++ regWriteLines s.cfg.regTime 0) =
      s.accept.afterBus (writeEvents s 0 s.cfg.regTime 0 ++ writeEvents s 4 s.cfg.regTime 0) 4 8 s.seq.waited := by
    rw [runPrims_append, runPrims_regWriteLines s.accept _ _ rfl rfl (hd.accept.mono (by omega)),
      afterBus_runPrims_regWriteLines _ _ _ _ rfl rfl _ _ hd.accept]
    rfl
  exact completes_of_frames _ _ _ _ hd.1 rfl hframes rfl

/-- Settles O55: the frames of ADJ_RATE, in order; the last writes back what the one before it received. -/
theorem adjRateCompletes : Obligations.AdjRateCompletes := by
  intro s ppm hd
  have hda := hd.accept
  have hframes : s.accept.runPrims (adjRateLines s.cfg ppm) = s.accept.afterBus
      (writeEvents s 0 0x07 s.cfg.rateCell ++ writeEvents s 4 0x06 (ppmLow ppm) ++ writeEvents s 8 0x06 (ppmHigh ppm) ++
        writeEvents s 12 0x07 s.cfg.clockrefCell ++ writeEvents s 16 0x06 s.cfg.clockrefInvalid ++
        readEvents s 20 s.cfg.regSrate ++ writeEvents s 24 s.cfg.regSrate (readAt s 20)) 14 28
      (s.seq.waited.received (readAt s 20)).waited := by
    simp only [adjRateLines, runPrims_append]
    rw [runPrims_regWriteLines s.accept _ _ rfl rfl (hda.mono (by omega)),
      afterBus_runPrims_regWriteLines _ _ _ _ rfl rfl _ _ (hda.mono (by omega)),
      afterBus_runPrims_regWriteLines _ _ _ _ rfl rfl _ _ (hda.mono (by omega)),
      afterBus_runPrims_wramWriteLines _ _ _ _ rfl rfl _ _ (hda.mono (by omega)),
      afterBus_runPrims_regReadLines s.accept _ _ _ _ _ rfl rfl (hda.mono (by omega)),
      afterBus_runPrims_regWriteBackLines _ _ _ _ rfl rfl _ hda]
    rfl
  exact completes_of_frames _ _ _ _ hd.1 rfl hframes rfl

/-- Settles O48: in range, one frame with the value of the new volume; else `raise` outside every transaction. -/
theorem setVolumeCompletes : Obligations.SetVolumeCompletes := by
  intro s v
  split
  case isTrue hv =>
    intro hd
    exact ⟨_, exec_setVolume_eq s v hv hd, sameRegisters_afterBus_respond _ _ _ _ _ _ _ _, rfl,
      { ended_afterBus_respond { s with vol := v.toNat } _ 2 4 _ .ok _ [] with }⟩
  case isFalse hv =>
    intro hr hi
    have hraise : exec (.setVolume v) s = .next (s.accept.respond .argRange (zextByte v) []) := by
      rw [← accept_runPrim_raise s .argRange (zextByte v) hr hi]
      exact if_pos (Nat.not_le.mp hv)
    exact ⟨_, hraise, sameRegisters_accept_respond s _ _ _, hi, (samePorts_accept s).ended_respond _ _ _⟩

/-- Settles O49: in range, one frame with the value of the new balance; else `raise` outside every transaction. -/
theorem setBalanceCompletes : Obligations.SetBalanceCompletes := by
  intro s b
  split
  case isTrue hb =>
    intro hd
    exact ⟨_, exec_setBalance_eq s b hb hd, sameRegisters_afterBus_respond _ _ _ _ _ _ _ _, rfl,
      { ended_afterBus_respond { s with bal := b.toInt } _ 2 4 _ .ok _ [] with }⟩
  case isFalse hb =>
    intro hr hi
    have habs : 100 < b.toInt.natAbs := by omega
    have hraise : exec (.setBalance b) s = .next (s.accept.respond .argRange (zextByte b) []) := by
      rw [← accept_runPrim_raise s .argRange (zextByte b) hr hi]
      exact if_pos habs
    exact ⟨_, hraise, sameRegisters_accept_respond s _ _ _, hi, (samePorts_accept s).ended_respond _ _ _⟩

end Sys2Proof.Machine
end

section
/-!
PROOFS. The ready wait (41_hardware_bus.md R164, R165, R171): what a sample that reads 1 or 0 does in a later step and in a wait's
first line, the wait that is never answered, and how every command that waits first comes to its first sample.
-/

namespace Sys2Proof.Machine

variable {s : State} {rest : List Task}

/-! ### A sample that reads 0 -/

/-- The state after a sample of a wait that read 0, and the yield. -/
def State.unanswered (s : State) : State :=
  { s with
    pollScript := s.pollScript.tail, polled := s.polled + 1, trace := .yield :: .poll false :: s.trace
    seq := { s.seq with polls := s.seq.polls + 1 } }

/-- Below the bound the wait goes on, and the lines after it are put off. -/
theorem pollOnce_runTasks_waits (hb : s.busy = true) (ht : s.todo = []) (hr : s.resetScript = []) (h : s.pollAt 0 = false)
    (hbound : ∀ k, s.cfg.waitBound = some k → s.seq.polls + 1 < k) :
    s.pollOnce.runTasks rest = { s.unanswered with todo := .prim .pollAgain :: rest } := by
  have hsample : s.pollOnce = { s.unanswered with todo := [.prim .pollAgain] } := by
    rw [pollOnce_waits s hb ht hr h hbound]
    simp [State.unanswered, State.emit, State.samplePoll, h]
  rw [hsample, runTasks_waiting { s.unanswered with todo := [.prim .pollAgain] } rest hb (by simp)]
  rfl

/-- At the bound the wait gives up, which ends the command. -/
theorem pollOnce_runTasks_gives_up {k : Nat} (hb : s.busy = true) (ht : s.todo = []) (hr : s.resetScript = [])
    (h : s.pollAt 0 = false) (hw : s.cfg.waitBound = some k) (hk : k ≤ s.seq.polls + 1) :
    s.pollOnce.runTasks rest = s.unanswered.raise .busTimeout 0 := by
  have hsample : s.pollOnce = s.unanswered.raise .busTimeout 0 := by
    rw [pollOnce_gives_up s k hb ht hr h hw hk]
    simp [State.unanswered, State.emit, State.samplePoll, h]
  rw [hsample, runTasks_ended _ rest (raise_busy _ _ _)]

/-- A wait that gives up leaves the registers, and its command has ended. -/
theorem unanswered_raise (s : State) :
    SameRegisters s (s.unanswered.raise .busTimeout 0) ∧ (s.unanswered.raise .busTimeout 0).busMode = .idle ∧
      Ended s (s.unanswered.raise .busTimeout 0) ⟨.busTimeout, 0, []⟩
        ([.poll false, .yield] ++ (if s.busMode = .idle then [] else [.closed])) 1 0 := by
  obtain ⟨hidle, hbusy, htodo, hresp, hevents, hsame⟩ := raiseClosesAndAnswers s.unanswered .busTimeout 0
  refine ⟨{ hsame with }, hidle, ?_⟩
  constructor
  case busy => exact hbusy
  case todo => exact htodo
  case responses => exact hresp
  case events =>
    have hsampled : s.unanswered.events = s.events ++ [.poll false, .yield] := by simp [State.events, State.unanswered]
    rw [hevents, ← List.append_assoc, hsampled]
    rfl
  case pollScript => simp [State.unanswered]
  all_goals simp [State.unanswered]

/-! ### A step of a wait -/

/-- A step of a command that waits takes one more sample, and then runs the lines after the wait if it can. -/
theorem step_of_waiting (hr : s.resetScript = []) (hb : s.busy = true) (ht : s.todo = .prim .pollAgain :: rest) :
    step s = .next (s.woken.pollOnce.runTasks rest) := by
  have hline := runAs_now s.woken (.prim .pollAgain) (runTask (.prim .pollAgain)) hb rfl hr
  rw [step_of_busy hr hb, resume_eq_runTasks, ht, runTasks_cons, hline]
  rfl

/-- A sample that reads 0 below the bound leaves the command where it stands. -/
theorem step_of_unanswered (hr : s.resetScript = []) (hb : s.busy = true) (ht : s.todo = .prim .pollAgain :: rest)
    (h : s.pollAt 0 = false) (hbound : ∀ k, s.cfg.waitBound = some k → s.seq.polls + 1 < k) :
    step s = .next s.unanswered := by
  rw [step_of_waiting hr hb ht, pollOnce_runTasks_waits (s := s.woken) hb rfl hr h hbound, ← ht]
  rfl

theorem samplePoll_of_answered (h : s.pollAt 0 = true) :
    s.samplePoll = { s with pollScript := s.pollScript.tail, polled := s.polled + 1, trace := .poll true :: s.trace } := by
  rw [State.samplePoll, h]

/-- Settles O20: a sample that reads 1 ends the wait, in a later step and in a wait's first line. -/
theorem answeredWaitGoesOn : Obligations.AnsweredWaitGoesOn := by
  constructor
  · intro s rest hr hb ht h
    have hw : s.woken.pollAt 0 = true := h
    rw [step_of_waiting hr hb ht, pollOnce_ready s.woken hw, samplePoll_of_answered hw]
    rfl
  · intro s hr hb ht h
    have hw : State.pollAt { s with seq := s.seq.waited } 0 = true := h
    exact (runPrim_now s .wait hb ht hr).trans ((pollOnce_ready _ hw).trans (samplePoll_of_answered hw))

/-! ### A wait that is never answered (R171, R291) -/

theorem unanswered_pollAt (s : State) (k : Nat) : s.unanswered.pollAt k = s.pollAt (k + 1) := samplePoll_pollAt s k

/-- Settles O21, by induction on the number of steps: each is one more sample that reads 0. -/
theorem waitNeverAnsweredHangs : Obligations.WaitNeverAnsweredHangs := by
  intro n
  induction n with
  | zero =>
    intro s rest _ hb _ _ _
    exact ⟨s, rfl, hb, rfl, rfl, rfl, rfl, { sameRegisters_accept_respond s .ok 0 [] with }, (List.append_nil _).symm⟩
  | succ n ih =>
    intro s rest hr hb ht hw hpoll
    have hstep : step s = .next s.unanswered :=
      step_of_unanswered hr hb ht (hpoll 0 (Nat.succ_pos n)) fun k hk => absurd (hw.symm.trans hk) (by simp)
    obtain ⟨t, hrun, hbusy, htodo, hmode, hresp, hinbox, hsame, hevents⟩ := ih s.unanswered rest hr hb ht hw
      fun k hk => (unanswered_pollAt s k).trans (hpoll (k + 1) (Nat.succ_lt_succ hk))
    have hfirst : Host.Core.run Sys2Proof.core (n + 1) s = Host.Core.run Sys2Proof.core n s.unanswered := by
      have hcore : Sys2Proof.core.step s = .next s.unanswered := hstep
      simp only [Host.Core.run, hcore]
    refine ⟨t, hfirst.trans hrun, hbusy, htodo, hmode, hresp, hinbox, { hsame with }, ?_⟩
    rw [hevents]
    simp [State.events, State.unanswered, List.replicate_succ]

/-! ### The first wait of a command -/

variable {w v u : State} {m : Mode} {evs : List Event} {p : Nat}

/-- `u` is what follows, in a command that began in `w`, from its first wait: the transaction of this wait has mode `m`, and before
it the command showed the events `evs`, polled `p` times and transferred nothing. -/
def ReachesWait (w : State) (m : Mode) (evs : List Event) (p : Nat) (u : State) : Prop :=
  ∃ q rest, u = (w.onBus (.active m) evs p 0 q).runTasks (.prim .wait :: rest)

theorem runTasks_wait (hb : w.busy = true) (ht : w.todo = []) (hr : w.resetScript = []) (q : Sequencer) :
    (w.onBus (.active m) evs p 0 q).runTasks (.prim .wait :: rest) =
      (w.onBus (.active m) evs p 0 q.waited).pollOnce.runTasks rest := by
  have hline := runAs_now (w.onBus (.active m) evs p 0 q) (.prim .wait) (runTask (.prim .wait)) hb ht hr
  rw [runTasks_cons, hline]
  rfl

/-- A first wait whose first sample reads 0, below the bound, stands. -/
theorem ReachesWait.stands (h : ReachesWait v.accept m evs p u) (hports : SamePorts s v) (hr : v.resetScript = [])
    (hpoll : v.pollAt p = false) (hbound : ∀ k, v.cfg.waitBound = some k → 1 < k) :
    SameRegisters v u ∧ StandsInWait s u m (evs ++ [.poll false, .yield]) (p + 1) := by
  obtain ⟨q, rest, rfl⟩ := h
  have hsample : (v.accept.onBus (.active m) evs p 0 q.waited).pollAt 0 = false :=
    (onBus_pollAt v.accept (.active m) evs p 0 q.waited 0).trans hpoll
  have hwaits := pollOnce_runTasks_waits (s := v.accept.onBus (.active m) evs p 0 q.waited) (rest := rest) rfl rfl hr
    hsample hbound
  rw [runTasks_wait (w := v.accept) rfl rfl hr, hwaits]
  refine ⟨{ sameRegisters_accept_respond v .ok 0 [] with }, ?_⟩
  constructor
  case todo => exact ⟨rest, rfl⟩
  case events => simp [State.events, State.unanswered, State.onBus, State.afterBus, hports.trace]
  case pollScript => simp [State.unanswered, State.onBus, State.afterBus, hports.pollScript]
  case polled => exact congrArg (· + (p + 1)) hports.polled
  case responses => exact hports.responses
  case inbox => exact hports.inbox
  case resetScript => exact hports.resetScript
  case resets => exact hports.resets
  case rxScript => exact hports.rxScript
  case clocked => exact hports.clocked
  all_goals rfl

/-- What has ended from a state inside a command has ended from its beginning. -/
theorem Ended.of_onBus {t : State} {b : BusMode} {p' x x' : Nat} {q : Sequencer} {r : Response} {evs' : List Event}
    (hports : SamePorts s w) (h : Ended (w.onBus b evs p x q) t r evs' p' x') :
    Ended s t r (evs ++ evs') (p + p') (x + x') where
  busy := h.busy
  todo := h.todo
  responses := h.responses.trans (congrArg (r :: ·) hports.responses)
  events := by
    rw [h.events]
    simp [State.events, State.onBus, State.afterBus, hports.trace]
  inbox := h.inbox.trans hports.inbox
  resetScript := h.resetScript.trans hports.resetScript
  resets := h.resets.trans hports.resets
  pollScript := by
    rw [h.pollScript]
    simp [State.onBus, State.afterBus, hports.pollScript]
  polled := by
    rw [h.polled]
    simp [State.onBus, State.afterBus, hports.polled, Nat.add_assoc]
  rxScript := by
    rw [h.rxScript]
    simp [State.onBus, State.afterBus, hports.rxScript]
  clocked := by
    rw [h.clocked]
    simp [State.onBus, State.afterBus, hports.clocked, Nat.add_assoc]

theorem SamePorts.accept (h : SamePorts s v) : SamePorts s v.accept := { h with }

/-- A first wait whose first sample reads 0, with the bound 1, ends its command. -/
theorem ReachesWait.times_out (h : ReachesWait v.accept m evs p u) (hports : SamePorts s v) (hr : v.resetScript = [])
    (hpoll : v.pollAt p = false) (hbound : v.cfg.waitBound = some 1) :
    SameRegisters v u ∧ u.busMode = .idle ∧
      Ended s u ⟨.busTimeout, 0, []⟩ (evs ++ [.poll false, .yield, .closed]) (p + 1) 0 := by
  obtain ⟨q, rest, rfl⟩ := h
  have hsample : (v.accept.onBus (.active m) evs p 0 q.waited).pollAt 0 = false :=
    (onBus_pollAt v.accept (.active m) evs p 0 q.waited 0).trans hpoll
  have hgives := pollOnce_runTasks_gives_up (s := v.accept.onBus (.active m) evs p 0 q.waited) (rest := rest) rfl rfl hr
    hsample hbound (Nat.le_add_left 1 _)
  rw [runTasks_wait (w := v.accept) rfl rfl hr, hgives]
  obtain ⟨hsame, hidle, hended⟩ := unanswered_raise (v.accept.onBus (.active m) evs p 0 q.waited)
  exact ⟨{ hsame with }, hidle, hended.of_onBus hports.accept⟩

/-! ### How a command comes to its first wait -/

section
variable (hb : w.busy = true) (ht : w.todo = []) (hr : w.resetScript = [])
include hb ht hr

/-- The next line or loop. -/
theorem onBus_runTasks_line (b : BusMode) (evs : List Event) (p x : Nat) (q : Sequencer) (t : Task) (ts : List Task) :
    (w.onBus b evs p x q).runTasks (t :: ts) =
      (t.effect (w.onBus b evs p x q)).runTasks (t.expand (w.onBus b evs p x q) ++ ts) :=
  runTasks_line (w.onBus b evs p x q) t ts hb ht hr

/-- The first lines of a control transaction. -/
theorem reachesWait_of_open (b : BusMode) (q : Sequencer) (rest : List Task) :
    ReachesWait w m (evs ++ [.opened m]) p
      ((w.onBus b evs p 0 q).runTasks (.prim (.openBus m) :: .prim .wait :: rest)) :=
  ⟨q, rest, congrArg (State.runTasks · _) (onBus_openBus b evs p 0 q hb ht hr m)⟩

/-- A stream that is not empty waits before its first burst. -/
theorem reachesWait_of_stream (src : Source) (hlen : 0 < src.length) (ts : List Task) :
    ReachesWait w .data [.opened .data] 0 (w.runTasks (streamTasks src ++ ts)) := by
  obtain ⟨n, hn⟩ := Nat.exists_eq_add_one_of_ne_zero (Nat.ne_of_gt hlen)
  have hinit : w.runPrims [.openBus .data, .posInit] = w.onBus (.active .data) [.opened .data] 0 0 { w.seq with pos := 0 } := by
    rw [runPrims_cons, eq_onBus w, onBus_openBus _ _ _ _ _ hb ht hr]
    exact onBus_runPrim _ _ _ _ _ hb ht hr .posInit
  have hburst : Task.expand (.bursts (n + 1) src) (w.onBus (.active .data) [.opened .data] 0 0 { w.seq with pos := 0 }) =
      lines (burstLines src (w.onBus (.active .data) [.opened .data] 0 0 { w.seq with pos := 0 })) ++ [.bursts n src] :=
    if_pos hlen
  rw [streamTasks, hn, List.append_assoc, List.append_assoc, runTasks_append, runTasks_lines, hinit, List.singleton_append,
    onBus_runTasks_line hb ht hr, hburst]
  exact ⟨_, _, rfl⟩

/-- A self-test with a sample to make waits in its first transaction. -/
theorem reachesWait_of_selfTest (hsweep : 0 < w.cfg.sweepEnd) (delta : Nat) (b : BusMode) (q : Sequencer) (ts : List Task) :
    ReachesWait w .ctrl (evs ++ [.opened .ctrl]) p
      ((w.onBus b evs p 0 q).runTasks (selfTestTasks w.cfg delta ++ ts)) := by
  obtain ⟨n, hn⟩ := Nat.exists_eq_add_one_of_ne_zero (Nat.ne_of_gt hsweep)
  have hinit : (w.onBus b evs p 0 q).runPrims [.sweepInit] = w.onBus b evs p 0 { q with mism := 0, swi := 0 } :=
    onBus_runPrim _ _ _ _ _ hb ht hr .sweepInit
  have hsample : Task.expand (.sweep (n + 1) delta) (w.onBus b evs p 0 { q with mism := 0, swi := 0 }) =
      lines (sampleLines w.cfg (BitVec.ofNat 16 0) delta) ++ [.sweep n delta] :=
    if_pos ⟨hsweep, Nat.zero_lt_succ 19⟩
  rw [selfTestTasks, hn, List.append_assoc, runTasks_append, runTasks_lines, hinit, List.singleton_append,
    onBus_runTasks_line hb ht hr, hsample]
  exact reachesWait_of_open hb ht hr b _ _

/-- A patch whose first record is well formed and writes a value waits in the transaction of that write. -/
theorem reachesWait_of_patch {words tail : List Half} {addr : Byte} {value : Half} {values : List Half} {size : Nat}
    (hhead : recordHead words = .record addr (value :: values) size tail) (ts : List Task) :
    ReachesWait w .ctrl [.opened .ctrl] 0
      (w.runTasks (lines [.patchInit] ++ [.records words.length words] ++ ts)) := by
  have hpos : words.length ≠ 0 := by
    intro hzero
    rw [List.length_eq_zero_iff.mp hzero] at hhead
    cases hhead
  obtain ⟨n, hn⟩ := Nat.exists_eq_add_one_of_ne_zero hpos
  have hinit : w.runPrims [.patchInit] = w.onBus w.busMode [] 0 0 { w.seq with pp := 0, writes := 0 } :=
    runPrim_now w .patchInit hb ht hr
  have hpast : Task.effect (.records (n + 1) words) (w.onBus w.busMode [] 0 0 { w.seq with pp := 0, writes := 0 }) =
      w.onBus w.busMode [] 0 0 { w.seq with pp := 0 + size, writes := 0 } := by
    simp only [Task.effect, hhead]
    rfl
  have hrecord : Task.expand (.records (n + 1) words) (w.onBus w.busMode [] 0 0 { w.seq with pp := 0, writes := 0 }) =
      [.writes addr (value :: values), .records n tail] := by
    simp only [Task.expand, hhead]
  rw [hn, List.append_assoc, runTasks_append, runTasks_lines, hinit, List.singleton_append, onBus_runTasks_line hb ht hr,
    hpast, hrecord, List.cons_append, onBus_runTasks_line hb ht hr]
  exact reachesWait_of_open hb ht hr w.busMode _ _

end

/-- The first record of a patch that `firstWait` names. -/
theorem recordHead_of_firstWait {address cw : Half} {values : List Half} (haddr : address.toNat ≤ 0x00FF)
    (hcount : 0 < cw.toNat % 0x8000) (hlen : (if 0x8000 ≤ cw.toNat then 1 else cw.toNat) ≤ values.length) :
    ∃ value more size tail, recordHead (address :: cw :: values) = .record (loByte address) (value :: more) size tail := by
  have hrepeat : 0 < repeatCount cw := by rwa [repeatCount_eq_mod]
  obtain ⟨n, hn⟩ := Nat.exists_eq_add_one_of_ne_zero (Nat.ne_of_gt hrepeat)
  by_cases hrun : 0x8000 ≤ cw.toNat
  · rw [if_pos hrun] at hlen
    obtain ⟨value, tail, rfl⟩ := List.exists_cons_of_length_pos hlen
    rw [recordHead_run value tail haddr ((isRun_eq_true_iff cw).mpr hrun), hn, List.replicate_succ]
    exact ⟨value, _, _, _, rfl⟩
  · rw [if_neg hrun] at hlen
    have hcw : repeatCount cw = cw.toNat := (repeatCount_eq_mod cw).trans (Nat.mod_eq_of_lt (Nat.not_le.mp hrun))
    obtain ⟨value, tail, rfl⟩ := List.exists_cons_of_length_pos (l := values) (by omega)
    rw [recordHead_copy _ haddr (mt (isRun_eq_true_iff cw).mp hrun), if_neg (by omega), hn, List.take_succ_cons]
    exact ⟨value, _, _, _, rfl⟩

theorem samePorts_withOperand (s : State) (i : Instr) : SamePorts s (s.withOperand i) := by
  cases i <;> exact ⟨rfl, rfl, rfl, rfl, rfl, rfl, rfl, rfl, rfl⟩

theorem withOperand_cfg (s : State) (i : Instr) : (s.withOperand i).cfg = s.cfg := by cases i <;> rfl

theorem withOperand_pollAt (s : State) (i : Instr) (k : Nat) : (s.withOperand i).pollAt k = s.pollAt k := by
  cases i <;> rfl

/-- Every command that `firstWait` names comes to the wait of its first transaction. -/
theorem exec_reachesWait {i : Instr} (h : firstWait s.cfg i = some m) (hr : s.resetScript = []) :
    ∃ t, exec i s = .next t ∧ ReachesWait (s.withOperand i).accept m [.opened m] 0 t := by
  have hopen : ∀ (v : State) (ts : List Task), v.resetScript = [] → m = .ctrl →
      ReachesWait v.accept m [.opened m] 0 (v.accept.runTasks (.prim (.openBus .ctrl) :: .prim .wait :: ts)) := by
    rintro v ts hv rfl
    exact reachesWait_of_open (w := v.accept) (evs := []) (p := 0) rfl rfl hv v.busMode v.seq ts
  cases i
  case setVolume v =>
    obtain ⟨hv, ⟨⟩⟩ := Option.ite_none_right_eq_some.mp h
    have hnot : ¬ Config.volMax < v.toNat := Nat.not_lt.mpr hv
    refine ⟨_, exec_eq_next s _ trivial, ?_⟩
    simp only [State.program, State.begun, if_neg hnot]
    exact hopen { s with vol := v.toNat } _ hr rfl
  case setBalance b =>
    obtain ⟨hv, ⟨⟩⟩ := Option.ite_none_right_eq_some.mp h
    have hnot : ¬ Config.balMax < (balanceOperand b).natAbs := by
      change ¬ 100 < b.toInt.natAbs
      omega
    refine ⟨_, exec_eq_next s _ trivial, ?_⟩
    simp only [State.program, State.begun, if_neg hnot]
    exact hopen { s with bal := balanceOperand b } _ hr rfl
  case selfTest fast =>
    obtain ⟨hsweep, ⟨⟩⟩ := Option.ite_none_right_eq_some.mp h
    exact ⟨_, exec_eq_next s _ trivial,
      reachesWait_of_selfTest (w := s.accept) (evs := []) rfl rfl hr hsweep _ s.busMode s.seq _⟩
  case loadPatch words =>
    match words, h with
    | address :: cw :: values, h =>
      obtain ⟨⟨haddr, hcount, hlen⟩, ⟨⟩⟩ := Option.ite_none_right_eq_some.mp h
      obtain ⟨value, more, size, tail, hhead⟩ := recordHead_of_firstWait haddr hcount hlen
      exact ⟨_, exec_eq_next s _ trivial, reachesWait_of_patch (w := s.accept) rfl rfl hr hhead _⟩
  case playChunk data =>
    obtain ⟨hlen, ⟨⟩⟩ := Option.ite_none_right_eq_some.mp h
    exact ⟨_, exec_eq_next s _ trivial, reachesWait_of_stream (w := s.accept) rfl rfl hr (.bytes data) hlen _⟩
  case sendFill n =>
    obtain ⟨hlen, ⟨⟩⟩ := Option.ite_none_right_eq_some.mp h
    exact ⟨_, exec_eq_next s _ trivial, reachesWait_of_stream (w := s.accept) rfl rfl hr (.filler n.toNat) hlen _⟩
  case startSong =>
    obtain ⟨hlen, ⟨⟩⟩ := Option.ite_none_right_eq_some.mp h
    exact ⟨_, exec_eq_next s _ trivial, reachesWait_of_stream (w := s.accept) rfl rfl hr (.filler s.cfg.nStartFill) hlen _⟩
  case stopSong =>
    obtain ⟨hlen, ⟨⟩⟩ := Option.ite_none_right_eq_some.mp h
    refine ⟨_, exec_eq_next s _ trivial, ?_⟩
    rw [State.program, List.append_assoc]
    exact reachesWait_of_stream (w := s.accept) rfl rfl hr (.filler s.cfg.nStopBig) hlen _
  case setTone n0 n1 n2 n3 =>
    exact ⟨_, exec_eq_next s _ trivial, hopen { s with tone := toneValue n0 n1 n2 n3 } _ hr (Option.some.inj h).symm⟩
  case regRead | regWrite | wramRead | wramWrite | isConnected | getTime | clrTime | adjRate =>
    exact ⟨_, exec_eq_next s _ trivial, hopen s _ hr (Option.some.inj h).symm⟩
  all_goals cases h

/-! ### BEGIN's first wait -/

theorem samePorts_created (s : State) : SamePorts s s.created := ⟨rfl, rfl, rfl, rfl, rfl, rfl, rfl, rfl, rfl⟩

/-- BEGIN after its one sample of the ready line stands outside every wait, and nothing has been transferred. -/
theorem begunPlayback_eq_onBus (s : State) :
    s.begunPlayback =
      s.created.accept.onBus s.busMode (beginEvents s (s.pollAt 0)) 1 0 { s.seq with absent := !s.pollAt 0 } := by
  have hdrop : s.pollScript.tail = s.pollScript.drop 1 := List.drop_one.symm
  simp only [State.begunPlayback, hdrop]
  rfl

/-- BEGIN with the ready line high comes to the first wait of its low-speed self-test. -/
theorem exec_begin_reachesWait (hsweep : 0 < s.cfg.sweepEnd) (hr : s.resetScript = []) (hpoll : s.pollAt 0 = true) :
    ∃ t, exec .begin s = .next t ∧
      ReachesWait s.created.accept .ctrl (beginEvents s true ++ [.opened .ctrl]) 1 t := by
  refine ⟨_, exec_begin_eq s hr, ?_⟩
  rw [begunPlayback_eq_onBus, hpoll, beginRest, List.append_assoc, List.append_assoc, List.singleton_append,
    onBus_runTasks_line (w := s.created.accept) rfl rfl hr]
  exact reachesWait_of_selfTest (w := s.created.accept) rfl rfl hr hsweep _ s.busMode _ _

/-! ### The obligations -/

/-- Settles O19: in a later step, in a wait's first line, in the first wait of every command that `firstWait` names, and in BEGIN's. -/
theorem unansweredWaitGoesOn : Obligations.UnansweredWaitGoesOn := by
  refine ⟨fun s rest hr hb ht hw h => ?_, fun s hr hb ht hbound h => ?_, fun i s m hm hr hbound h => ?_,
    fun s hsweep hr hbound h0 h1 => ?_⟩
  · exact step_of_unanswered hr hb ht h fun k hk => absurd (hw.symm.trans hk) (by simp)
  · exact (runPrim_now s .wait hb ht hr).trans
      (pollOnce_runTasks_waits (s := { s with seq := s.seq.waited }) (rest := []) hb ht hr h hbound)
  · obtain ⟨t, hexec, hreach⟩ := exec_reachesWait hm hr
    obtain ⟨hsame, hstands⟩ := hreach.stands (samePorts_withOperand s i) ((samePorts_withOperand s i).resetScript.trans hr)
      ((withOperand_pollAt s i 0).trans h) (by rwa [withOperand_cfg])
    exact ⟨t, hexec, hsame, hstands⟩
  · obtain ⟨t, hexec, hreach⟩ := exec_begin_reachesWait hsweep hr h0
    obtain ⟨hsame, hstands⟩ := hreach.stands (samePorts_created s) hr h1 hbound
    rw [List.append_assoc] at hstands
    exact ⟨t, hexec, hsame, hstands⟩

/-- Settles O22: a wait goes on or gives up as the bound says; with the bound 1 a first wait gives up at its first sample. -/
theorem boundedWaitTimesOut : Obligations.BoundedWaitTimesOut := by
  refine ⟨fun s rest k hr hb ht hw h => ?_, fun s hr hb ht hw h => ?_, fun i s m hm hr hw h => ?_,
    fun s hsweep hr hw h0 h1 => ?_⟩
  · split
    case isTrue hk =>
      refine step_of_unanswered hr hb ht h fun k' hk' => ?_
      obtain rfl := Option.some.inj (hw.symm.trans hk')
      exact hk
    case isFalse hk =>
      obtain ⟨hsame, hidle, hended⟩ := unanswered_raise s.woken
      refine ⟨_, ?_, { hsame with }, hidle, { hended with }⟩
      rw [step_of_waiting hr hb ht, pollOnce_runTasks_gives_up (s := s.woken) hb rfl hr h hw (Nat.not_lt.mp hk)]
  · have hrun : s.runPrim .wait = State.raise (State.unanswered { s with seq := s.seq.waited }) .busTimeout 0 :=
      (runPrim_now s .wait hb ht hr).trans
        (pollOnce_runTasks_gives_up (s := { s with seq := s.seq.waited }) (rest := []) hb ht hr h hw (Nat.le_add_left 1 _))
    obtain ⟨hsame, hidle, hended⟩ := unanswered_raise { s with seq := s.seq.waited }
    rw [hrun]
    exact ⟨{ hsame with }, hidle, { hended with }⟩
  · obtain ⟨t, hexec, hreach⟩ := exec_reachesWait hm hr
    obtain ⟨hsame, hidle, hended⟩ := hreach.times_out (samePorts_withOperand s i)
      ((samePorts_withOperand s i).resetScript.trans hr) ((withOperand_pollAt s i 0).trans h) (by rwa [withOperand_cfg])
    exact ⟨t, hexec, hsame, hidle, hended⟩
  · obtain ⟨t, hexec, hreach⟩ := exec_begin_reachesWait hsweep hr h0
    obtain ⟨hsame, hidle, hended⟩ := hreach.times_out (samePorts_created s) hr h1 hw
    rw [List.append_assoc] at hended
    exact ⟨t, hexec, hsame, hidle, hended⟩

end Sys2Proof.Machine
end

section
/-!
PROOFS. The streaming commands (43_streaming_writer.md R201 to R207) against a ready device: the bytes of one burst, the induction over
the bursts of a stream, and the commands that stream once and answer.
-/

namespace Sys2Proof.Machine

/-! ### The bytes of a stream and their events -/

/-- The byte at a position of a streaming transfer (R204). -/
def Source.byteAt (src : Source) (fill : Byte) : Nat → Byte :=
  match src with
  | .bytes d => fun p => d.getD p 0
  | .filler _ => fun _ => fill

theorem Source.burst_eq_map (src : Source) (fill : Byte) {pos k : Nat} (h : pos + k ≤ src.length) :
    src.burst fill pos k = (List.range k).map fun j => src.byteAt fill (pos + j) := by
  cases src with
  | bytes d =>
    have hlen : pos + k ≤ d.length := h
    apply List.ext_getElem
    · simp [Source.burst]
      omega
    · intro j hj _
      have hjk : j < k := by
        simp [Source.burst] at hj
        omega
      have hin : pos + j < d.length := by omega
      simp [Source.burst, Source.byteAt, hin]
  | filler n => simp [Source.burst, Source.byteAt]

/-- The events of the first `n` bytes of a stream whose first transfer is the `k`-th from `s` on: with a poll before each burst. -/
def sentEvents (s : State) (k : Nat) (byteAt : Nat → Byte) (n : Nat) : List Event :=
  (List.range n).flatMap fun p =>
    (if p % s.cfg.subchunkMax = 0 then [.poll true] else []) ++ [.xfer (byteAt p) (s.rxAt (k + p))]

theorem streamEvents_eq_sentEvents (s : State) (k len : Nat) (byteAt : Nat → Byte) :
    streamEvents s k len byteAt = [.opened .data] ++ sentEvents s k byteAt len ++ [.closed] := rfl

/-- The events of one burst more. -/
theorem sentEvents_add_burst (s : State) (x : Nat) (byteAt : Nat → Byte) {pos k : Nat} (hpos : s.cfg.subchunkMax ∣ pos)
    (hk : 0 < k) (hle : k ≤ s.cfg.subchunkMax) :
    sentEvents s x byteAt (pos + k) =
      sentEvents s x byteAt pos ++ [.poll true] ++
        (List.range k).map fun j => .xfer (byteAt (pos + j)) (s.rxAt (x + pos + j)) := by
  obtain ⟨k, rfl⟩ := Nat.exists_eq_add_one_of_ne_zero (Nat.ne_of_gt hk)
  have hfirst : pos % s.cfg.subchunkMax = 0 := Nat.mod_eq_zero_of_dvd hpos
  have hlater : ∀ j ∈ List.range k, (pos + (j + 1)) % s.cfg.subchunkMax ≠ 0 := by
    intro j hj hzero
    rw [Nat.add_mod, hfirst, Nat.zero_add, Nat.mod_mod, Nat.mod_eq_of_lt (by have := List.mem_range.mp hj; omega)] at hzero
    omega
  have htail : ((List.range k).map fun j => pos + (j + 1)).flatMap (fun p =>
      (if p % s.cfg.subchunkMax = 0 then [.poll true] else []) ++ [Event.xfer (byteAt p) (s.rxAt (x + p))]) =
      (List.range k).map fun j => .xfer (byteAt (pos + (j + 1))) (s.rxAt (x + pos + (j + 1))) := by
    rw [List.flatMap_map, List.map_eq_flatMap]
    refine List.flatMap_congr fun j hj => ?_
    rw [if_neg (hlater j hj), Nat.add_assoc]
    rfl
  simp only [sentEvents] at htail ⊢
  rw [List.range_add, List.flatMap_append, List.range_succ_eq_map, List.map_cons, List.map_cons, List.map_map, List.map_map,
    List.flatMap_cons]
  have hmap : (List.range k).map ((fun j => pos + j) ∘ Nat.succ) = (List.range k).map fun j => pos + (j + 1) := rfl
  rw [hmap, htail]
  simp [hfirst]

/-- One wait more for each burst (R201). -/
theorem streamPolls_add_burst (c : Cfg) {pos k : Nat} (hpos : c.subchunkMax ∣ pos) (hk : 0 < k) (hle : k ≤ c.subchunkMax) :
    streamPolls c (pos + k) = streamPolls c pos + 1 := by
  obtain ⟨m, rfl⟩ := hpos
  have hsub : 0 < c.subchunkMax := Nat.lt_of_lt_of_le hk hle
  have hlast : ∀ r, r < c.subchunkMax → (c.subchunkMax * m + r) / c.subchunkMax = m := fun r hr => by
    rw [Nat.mul_add_div hsub, Nat.div_eq_of_lt hr, Nat.add_zero]
  have hnext : c.subchunkMax * m + k + c.subchunkMax - 1 = c.subchunkMax * m + (k - 1) + c.subchunkMax := by omega
  rw [streamPolls, streamPolls, hnext, Nat.add_div_right _ hsub, hlast (k - 1) (by omega), Nat.add_sub_assoc hsub,
    hlast (c.subchunkMax - 1) (by omega)]

theorem streamPolls_zero (c : Cfg) (h : 1 ≤ c.subchunkMax) : streamPolls c 0 = 0 := Nat.div_eq_of_lt (by omega)

theorem streamPolls_le (c : Cfg) {m n : Nat} (h : m ≤ n) : streamPolls c m ≤ streamPolls c n :=
  Nat.div_le_div_right (by omega)

/-! ### One burst -/

variable {s : State} (b : BusMode) (evs : List Event) (p x : Nat) (q : Sequencer)

section
variable (hb : s.busy = true) (ht : s.todo = []) (hr : s.resetScript = [])
include hb ht hr

/-- Bytes sent one after the other. -/
theorem onBus_sends (byteAt : Nat → Byte) (k : Nat) :
    (s.onBus b evs p x q).runPrims (((List.range k).map byteAt).map .send) =
      s.onBus b (evs ++ (List.range k).map fun j => .xfer (byteAt j) (s.rxAt (x + j))) p (x + k) q := by
  induction k with
  | zero => simp
  | succ k ih =>
    rw [List.range_succ, List.map_append, List.map_append, runPrims_append, ih, List.map_singleton, List.map_singleton,
      runPrims_cons, runPrims_nil, onBus_send _ _ _ _ _ hb ht hr, List.map_append, List.append_assoc]
    rfl

end

/-- The sequencing state after `pos` bytes of a stream. -/
def Sequencer.streamed (q : Sequencer) (pos : Nat) : Sequencer :=
  { q with pos := pos, polls := if pos = 0 then q.polls else 0 }

/-- The state of a stream that began in `s.onBus _ evs p x q`, after its first `pos` bytes. -/
def State.streaming (s : State) (evs : List Event) (p x : Nat) (q : Sequencer) (src : Source) (pos : Nat) : State :=
  s.onBus (.active .data) (evs ++ [.opened .data] ++ sentEvents s x (src.byteAt s.fill) pos) (p + streamPolls s.cfg pos)
    (x + pos) (q.streamed pos)

variable (src : Source)

section
variable (hb : s.busy = true) (ht : s.todo = []) (hsub : 1 ≤ s.cfg.subchunkMax)
include hb ht hsub

/-- The lines before the first burst. -/
theorem runPrims_streamInit (hr : s.resetScript = []) :
    (s.onBus b evs p x q).runPrims [.openBus .data, .posInit] = s.streaming evs p x q src 0 := by
  rw [runPrims_cons, onBus_openBus _ _ _ _ _ hb ht hr, State.streaming, streamPolls_zero _ hsub, sentEvents, List.range_zero,
    List.flatMap_nil, List.append_nil]
  exact onBus_runPrim _ _ _ _ _ hb ht hr .posInit

/-- One burst: one wait, then at most `SUBCHUNK_MAX` bytes. -/
theorem runPrims_burstLines {pos k : Nat} (hpos : s.cfg.subchunkMax ∣ pos) (hlt : pos < src.length)
    (hk : k = min (src.length - pos) s.cfg.subchunkMax) (hd : DeviceReady s (p + streamPolls s.cfg (pos + k))) :
    (s.streaming evs p x q src pos).runPrims (burstLines src (s.streaming evs p x q src pos)) =
      s.streaming evs p x q src (pos + k) := by
  have hkpos : 0 < k := by omega
  have hkle : k ≤ s.cfg.subchunkMax := by omega
  have hlines : burstLines src (s.streaming evs p x q src pos) =
      [.wait] ++ (((List.range k).map fun j => src.byteAt s.fill (pos + j)).map .send) ++ [.posAdd k] := by
    rw [← src.burst_eq_map s.fill (by omega), hk]
    rfl
  have hpolls := streamPolls_add_burst s.cfg hpos hkpos hkle
  rw [hlines, runPrims_append, runPrims_append, State.streaming]
  simp only [runPrims_cons, runPrims_nil]
  rw [onBus_wait _ _ _ _ _ hb ht (hd.mono (by omega)), onBus_sends _ _ _ _ _ hb ht hd.1,
    onBus_runPrim _ _ _ _ _ hb ht hd.1, State.streaming, sentEvents_add_burst s x _ hpos hkpos hkle, hpolls]
  have hne : pos + k ≠ 0 := by omega
  simp only [Sequencer.streamed, Sequencer.waited, if_neg hne, List.append_assoc, Nat.add_assoc]
  rfl

/-- The loop against a ready device, by induction on its bound: it sends all that is left. -/
theorem burstLoop_streaming (hd : DeviceReady s (p + streamPolls s.cfg src.length)) (n pos : Nat)
    (hpos : s.cfg.subchunkMax ∣ pos ∨ pos = src.length) (hle : pos ≤ src.length) (hn : src.length ≤ pos + n) :
    burstLoop src n (s.streaming evs p x q src pos) = s.streaming evs p x q src src.length := by
  induction n generalizing pos with
  | zero =>
    obtain rfl : pos = src.length := by omega
    rfl
  | succ n ih =>
    by_cases hlt : pos < src.length
    · have hdvd := hpos.resolve_right (Nat.ne_of_lt hlt)
      obtain ⟨k, hk⟩ : ∃ k, k = min (src.length - pos) s.cfg.subchunkMax := ⟨_, rfl⟩
      have hready : DeviceReady s (p + streamPolls s.cfg (pos + k)) :=
        hd.mono (Nat.add_le_add_left (streamPolls_le s.cfg (by omega)) p)
      have hburst := runPrims_burstLines evs p x q src hb ht hsub hdvd hlt hk hready
      have hnext : s.cfg.subchunkMax ∣ pos + k ∨ pos + k = src.length := by
        by_cases hlast : src.length - pos ≤ s.cfg.subchunkMax
        · exact .inr (by omega)
        · obtain rfl : k = s.cfg.subchunkMax := by omega
          exact .inl ((Nat.dvd_add_iff_left (Nat.dvd_refl _)).mp hdvd)
      have hgo : burstLoop src (n + 1) (s.streaming evs p x q src pos) =
          ((s.streaming evs p x q src pos).runPrims (burstLines src (s.streaming evs p x q src pos))).runAs (.bursts n src)
            (burstLoop src n) := if_pos hlt
      have hrun : (s.streaming evs p x q src (pos + k)).runAs (.bursts n src) (burstLoop src n) =
          burstLoop src n (s.streaming evs p x q src (pos + k)) := runAs_now _ _ _ hb ht hd.1
      rw [hgo, hburst, hrun]
      exact ih (pos + k) hnext (by omega) (by omega)
    · obtain rfl : pos = src.length := by omega
      exact if_neg hlt

/-- A stream against a ready device: one data transaction. -/
theorem stream_ready (hd : DeviceReady s (p + streamPolls s.cfg src.length)) :
    stream src (s.onBus b evs p x q) =
      s.afterBus (evs ++ streamEvents s x src.length (src.byteAt s.fill)) (p + streamPolls s.cfg src.length)
        (x + src.length) (q.streamed src.length) := by
  have hloop : (s.streaming evs p x q src 0).runAs (.bursts src.length src) (burstLoop src src.length) =
      s.streaming evs p x q src src.length :=
    (runAs_now (s.streaming evs p x q src 0) _ _ hb ht hd.1).trans (burstLoop_streaming evs p x q src hb ht hsub hd
      src.length 0 (.inl (Nat.dvd_zero _)) (Nat.zero_le _) (Nat.le_add_left _ _))
  rw [stream, runPrims_streamInit b evs p x q src hb ht hsub hd.1, hloop, State.streaming, onBus_closeBus _ _ _ _ _ hb ht hd.1,
    streamEvents_eq_sentEvents]
  simp only [List.append_assoc]
  rfl

end

/-- A stream of length zero runs no burst, whatever the device does (R206). -/
theorem stream_empty (hlen : src.length = 0) (hb : s.busy = true) (ht : s.todo = []) (hr : s.resetScript = []) :
    stream src s = s.afterBus [.opened .data, .closed] 0 0 { s.seq with pos := 0 } := by
  have hinit : s.runPrims [.openBus .data, .posInit] = s.onBus (.active .data) [.opened .data] 0 0 { s.seq with pos := 0 } := by
    rw [eq_onBus s, runPrims_cons, onBus_openBus _ _ _ _ _ hb ht hr]
    exact onBus_runPrim _ _ _ _ _ hb ht hr .posInit
  have hloop : (s.onBus (.active .data) [.opened .data] 0 0 { s.seq with pos := 0 }).runAs (.bursts 0 src) (burstLoop src 0) =
      s.onBus (.active .data) [.opened .data] 0 0 { s.seq with pos := 0 } := runAs_now _ _ _ hb ht hr
  rw [stream, hlen, hinit, hloop, onBus_closeBus _ _ _ _ _ hb ht hr]
  rfl

/-! ### The commands that stream once and answer -/

/-- Such a command has, once it has streamed, answered 0 and written no register. -/
theorem completes_of_stream {i : Instr} {src : Source} (hr : s.resetScript = [])
    (hexec : exec i s = .next ((stream src s.accept).runPrim (.answer (.value 0))))
    (hstream : stream src s.accept = s.accept.afterBus evs p x q) :
    ∃ t, exec i s = .next t ∧ SameRegisters s t ∧ t.busMode = .idle ∧ Ended s t ⟨.ok, 0, []⟩ evs p x := by
  rw [hstream, accept_afterBus_answer s evs p x q (.value 0) hr] at hexec
  exact ⟨_, hexec, sameRegisters_afterBus_respond s _ _ _ _ _ _ _, rfl, ended_afterBus_respond s _ _ _ _ _ _ _⟩

/-- A stream that a command begins with. -/
theorem accept_stream_ready (src : Source) (hsub : 1 ≤ s.cfg.subchunkMax) (hd : DeviceReady s (streamPolls s.cfg src.length)) :
    stream src s.accept =
      s.accept.afterBus (streamEvents s 0 src.length (src.byteAt s.fill)) (streamPolls s.cfg src.length) src.length
        (s.seq.streamed src.length) := by
  have hstream := stream_ready (s := s.accept) s.busMode [] 0 0 s.seq src rfl rfl hsub (by rwa [Nat.zero_add])
  simp only [Nat.zero_add] at hstream
  exact hstream

/-- Settles O36: PLAY_CHUNK streams its payload, SEND_FILL and START_SONG the fill byte. -/
theorem streamCommandsSendEveryByte : Obligations.StreamCommandsSendEveryByte := fun _ hsub =>
  ⟨fun data hd => completes_of_stream _ _ _ _ hd.1 rfl (accept_stream_ready (.bytes data) hsub hd),
    fun n hd => completes_of_stream _ _ _ _ hd.1 rfl (accept_stream_ready (.filler n.toNat) hsub hd),
    fun hd => completes_of_stream _ _ _ _ hd.1 rfl (accept_stream_ready (.filler _) hsub hd)⟩

/-- Settles O37: neither command runs a burst. -/
theorem emptyStreamCannotBlock : Obligations.EmptyStreamCannotBlock := fun s hr =>
  ⟨completes_of_stream _ _ _ _ hr rfl (stream_empty (s := s.accept) (.bytes []) rfl rfl rfl hr),
    completes_of_stream _ _ _ _ hr rfl (stream_empty (s := s.accept) (.filler 0) rfl rfl rfl hr)⟩

end Sys2Proof.Machine
end

section
/-!
PROOFS. STOP_SONG (43_streaming_writer.md R210, R211) against a ready device: what one round leaves, the induction over the rounds in
which the cancel bit reads set, and the two ends of the command.
-/

namespace Sys2Proof.Machine

variable {s : State} {q : Sequencer}

/-- A burst of fill bytes between two transactions (R205). -/
theorem afterBus_stream_filler (w : State) (evs : List Event) (p x : Nat) (q : Sequencer) (n : Nat) (hb : w.busy = true)
    (ht : w.todo = []) (hsub : 1 ≤ w.cfg.subchunkMax) (hd : DeviceReady w (p + streamPolls w.cfg n)) :
    stream (.filler n) (w.afterBus evs p x q) =
      w.afterBus (evs ++ streamEvents w x n (fun _ => w.fill)) (p + streamPolls w.cfg n) (x + n) (q.streamed n) :=
  stream_ready .idle evs p x q (.filler n) hb ht hsub hd

/-! ### The events, polls and transfers of one round more -/

theorem stopEvents_succ (s : State) (j : Nat) :
    stopEvents s (j + 1) =
      stopEvents s j ++ streamEvents s (roundStart s.cfg j) s.cfg.nStopSmall (fun _ => s.fill) ++
        readEvents s (roundStart s.cfg j + s.cfg.nStopSmall) s.cfg.regMode := by
  simp [stopEvents, roundEvents, List.range_succ]

theorem stopPolls_succ (c : Cfg) (j : Nat) : stopPolls c (j + 1) = stopPolls c j + streamPolls c c.nStopSmall + 2 := by
  rw [stopPolls, stopPolls, Nat.add_one_mul]
  omega

theorem roundStart_succ (c : Cfg) (j : Nat) : roundStart c (j + 1) = roundStart c j + c.nStopSmall + 4 := by
  rw [roundStart, roundStart, Nat.add_one_mul]
  omega

theorem stopPolls_le (c : Cfg) {i j : Nat} (h : i ≤ j) : stopPolls c i ≤ stopPolls c j :=
  Nat.add_le_add_left (Nat.mul_le_mul_right _ h) _

/-! ### The state between two rounds -/

/-- `MODEMIR` after the first `j` rounds: the mode read of the last of them. -/
def State.mirrorAfter (s : State) (j : Nat) : Half := if j = 0 then s.modeMir else modeAt s (j - 1)

/-- The state of a STOP_SONG taken in `s`, after its first `j` rounds. -/
def State.atRound (s : State) (j : Nat) (q : Sequencer) : State :=
  (State.accept { s with modeMir := s.mirrorAfter j }).afterBus (stopEvents s j) (stopPolls s.cfg j) (roundStart s.cfg j) q

/-- The big burst, the cancel write and the counter's first value come before the first round. -/
theorem exec_stopSong_eq (hsub : 1 ≤ s.cfg.subchunkMax) (hd : DeviceReady s (stopPolls s.cfg 0)) :
    ∃ q, q.sti = 0 ∧ exec .stopSong s = .next (stopLoop s.cfg.stopBudget (s.atRound 0 q)) := by
  have hpolls : stopPolls s.cfg 0 = streamPolls s.cfg s.cfg.nStopBig + 2 := by simp [stopPolls]
  have hstart : roundStart s.cfg 0 = s.cfg.nStopBig + 4 := by simp [roundStart]
  have hevents : stopEvents s 0 = streamEvents s 0 s.cfg.nStopBig (fun _ => s.fill) ++
      writeEvents s s.cfg.nStopBig s.cfg.regMode s.cfg.modeCancelValue := by simp [stopEvents]
  rw [hpolls] at hd
  have hsent : stream (.filler s.cfg.nStopBig) s.accept =
      s.accept.afterBus (streamEvents s 0 s.cfg.nStopBig (fun _ => s.fill)) (streamPolls s.cfg s.cfg.nStopBig) s.cfg.nStopBig
        (s.seq.streamed s.cfg.nStopBig) :=
    accept_stream_ready (.filler s.cfg.nStopBig) hsub (hd.mono (Nat.le_add_right _ 2))
  have hlines : (stream (.filler s.cfg.nStopBig) s.accept).runPrims
      (regWriteLines s.cfg.regMode s.cfg.modeCancelValue ++ [.stiInit]) =
      s.atRound 0 { (s.seq.streamed s.cfg.nStopBig).waited with sti := 0 } := by
    rw [hsent, runPrims_append, afterBus_runPrims_regWriteLines _ _ _ _ rfl rfl _ _ hd.accept, State.atRound, hpolls, hstart,
      hevents]
    exact onBus_runPrim (s := s.accept) _ _ _ _ _ rfl rfl hd.1 .stiInit
  refine ⟨{ (s.seq.streamed s.cfg.nStopBig).waited with sti := 0 }, rfl, congrArg Host.Outcome.next ?_⟩
  rw [hlines]
  exact runAs_now (s.atRound 0 _) _ _ rfl rfl hd.1

/-- One round: a small burst and the mode register read into `MODEMIR`; what follows is the test of the cancel bit. -/
theorem stopLoop_atRound (hsub : 1 ≤ s.cfg.subchunkMax) (j n : Nat) (hd : DeviceReady s (stopPolls s.cfg (j + 1))) :
    ∃ q', q'.sti = q.sti ∧ stopLoop (n + 1) (s.atRound j q) = cancelTest (stopLoop n) (s.atRound (j + 1) q') := by
  rw [stopPolls_succ] at hd
  have hsent := afterBus_stream_filler (State.accept { s with modeMir := s.mirrorAfter j }) (stopEvents s j)
    (stopPolls s.cfg j) (roundStart s.cfg j) q s.cfg.nStopSmall rfl rfl hsub (hd.mono (Nat.le_add_right _ 2))
  have hread := afterBus_runPrims_regReadLines (State.accept { s with modeMir := s.mirrorAfter j })
    (stopEvents s j ++ streamEvents s (roundStart s.cfg j) s.cfg.nStopSmall (fun _ => s.fill))
    (stopPolls s.cfg j + streamPolls s.cfg s.cfg.nStopSmall) (roundStart s.cfg j + s.cfg.nStopSmall)
    (q.streamed s.cfg.nStopSmall) s.cfg.regMode rfl rfl hd
  have hlines : (stream (.filler s.cfg.nStopSmall) (s.atRound j q)).runPrims (regReadLines s.cfg.regMode ++ [.mirror]) =
      s.atRound (j + 1) ((q.streamed s.cfg.nStopSmall).received (modeAt s j)) := by
    rw [runPrims_append]
    refine (congrArg (fun u : State => (u.runPrims (regReadLines s.cfg.regMode)).runPrims [.mirror]) hsent).trans ?_
    refine (congrArg (fun u : State => u.runPrims [.mirror]) hread).trans ?_
    rw [State.atRound, stopEvents_succ, stopPolls_succ, roundStart_succ]
    exact onBus_runPrim (s := State.accept { s with modeMir := s.mirrorAfter j }) _ _ _ _ _ rfl rfl hd.1 .mirror
  refine ⟨(q.streamed s.cfg.nStopSmall).received (modeAt s j), rfl, ?_⟩
  exact (congrArg (fun u : State => u.runAs (.cancelTest n) (cancelTest (stopLoop n))) hlines).trans
    (runAs_now (s.atRound (j + 1) _) _ _ rfl rfl hd.1)

/-- The bit that the test reads is that of the last round. -/
theorem cancelSet_atRound (j : Nat) : (s.atRound (j + 1) q).cancelSet = cancelAt s j := rfl

/-- Rounds in which the cancel bit reads set, by induction on their number. -/
theorem stopLoop_rounds (hsub : 1 ≤ s.cfg.subchunkMax) (d n : Nat) (hset : ∀ j, j < d → cancelAt s j = true)
    (hd : DeviceReady s (stopPolls s.cfg d)) (hq : q.sti = 0) :
    ∃ q', q'.sti = d ∧ stopLoop (d + n) (s.atRound 0 q) = stopLoop n (s.atRound d q') := by
  induction d generalizing n with
  | zero => exact ⟨q, hq, by rw [Nat.zero_add]⟩
  | succ d ih =>
    obtain ⟨q', hsti, hrounds⟩ := ih (n + 1) (fun j hj => hset j (Nat.lt_succ_of_lt hj))
      (hd.mono (stopPolls_le s.cfg (Nat.le_succ d)))
    obtain ⟨q'', hsti', hround⟩ := stopLoop_atRound (q := q') hsub d n hd
    have hcancel : (s.atRound (d + 1) q'').cancelSet = true := (cancelSet_atRound d).trans (hset d (Nat.lt_succ_self d))
    refine ⟨{ q'' with sti := q''.sti + 1 }, by rw [hsti', hsti], ?_⟩
    rw [Nat.add_assoc, Nat.add_comm 1 n, hrounds, hround]
    exact if_pos hcancel

/-! ### The two ends of the command -/

/-- Settles O38: after the rounds with the bit set, one round with it clear, and then the second big burst and the answer. -/
theorem stopSongEndsWhenTheBitClears : Obligations.StopSongEndsWhenTheBitClears := by
  intro s i hsub hi hset hclear hd
  have hrounds : DeviceReady s (stopPolls s.cfg (i + 1)) := hd.mono (Nat.le_add_right _ _)
  obtain ⟨q, hq, hexec⟩ := exec_stopSong_eq hsub (hrounds.mono (stopPolls_le s.cfg (Nat.zero_le _)))
  obtain ⟨n, hn⟩ : ∃ n, s.cfg.stopBudget = i + (n + 1) := ⟨s.cfg.stopBudget - (i + 1), by omega⟩
  obtain ⟨q', hsti, hloop⟩ := stopLoop_rounds hsub i (n + 1) hset (hrounds.mono (stopPolls_le s.cfg (Nat.le_succ i))) hq
  obtain ⟨q'', hsti', hround⟩ := stopLoop_atRound (q := q') hsub i n hrounds
  have hcancel : ¬ (s.atRound (i + 1) q'').cancelSet = true := by rw [cancelSet_atRound, hclear]; exact Bool.false_ne_true
  have hburst := afterBus_stream_filler (State.accept { s with modeMir := modeAt s i }) (stopEvents s (i + 1))
    (stopPolls s.cfg (i + 1)) (roundStart s.cfg (i + 1)) q'' s.cfg.nStopBig rfl rfl hsub hd
  have hanswer : cancelTest (stopLoop n) (s.atRound (i + 1) q'') =
      ((State.accept { s with modeMir := modeAt s i }).afterBus
        (stopEvents s (i + 1) ++ streamEvents s (roundStart s.cfg (i + 1)) s.cfg.nStopBig (fun _ => s.fill))
        (stopPolls s.cfg (i + 1) + streamPolls s.cfg s.cfg.nStopBig) (roundStart s.cfg (i + 1) + s.cfg.nStopBig)
        (q''.streamed s.cfg.nStopBig)).respond .ok (zext32 q''.sti) [] := by
    refine (if_neg hcancel).trans ((congrArg (fun u : State => u.runPrim (.answer .iterations)) hburst).trans ?_)
    exact accept_afterBus_answer { s with modeMir := modeAt s i } _ _ _ _ .iterations hd.1
  rw [hn, hloop, hround, hanswer, hsti', hsti] at hexec
  exact ⟨_, hexec, sameRegisters_afterBus_respond _ _ _ _ _ _ _ _, rfl,
    { ended_afterBus_respond { s with modeMir := modeAt s i } _ _ _ _ .ok _ [] with }⟩

/-- Settles O39: after the rounds of the whole budget the loop raises outside every transaction. -/
theorem stopSongReportsAnExhaustedBudget : Obligations.StopSongReportsAnExhaustedBudget := by
  intro s hsub hset hd
  obtain ⟨q, hq, hexec⟩ := exec_stopSong_eq hsub (hd.mono (stopPolls_le s.cfg (Nat.zero_le _)))
  obtain ⟨q', -, hloop⟩ := stopLoop_rounds hsub s.cfg.stopBudget 0 hset hd hq
  have hraise : stopLoop 0 (s.atRound s.cfg.stopBudget q') =
      (s.atRound s.cfg.stopBudget q').respond .stopIncomplete (zext32 s.cfg.stopBudget) [] :=
    runPrim_now (s.atRound s.cfg.stopBudget q') (.raise .stopIncomplete (zext32 s.cfg.stopBudget)) rfl rfl hd.1
  rw [Nat.add_zero] at hloop
  rw [hloop, hraise] at hexec
  exact ⟨_, hexec, sameRegisters_afterBus_respond _ _ _ _ _ _ _ _, rfl,
    { ended_afterBus_respond { s with modeMir := s.mirrorAfter s.cfg.stopBudget } _ _ _ _ .stopIncomplete _ [] with }⟩

end Sys2Proof.Machine
end

section
/-!
PROOFS. BEGIN (45_playback_controller.md R236 to R242): its self-tests as parts of a command, the degraded ends, and the bring-up of a
device whose low-speed self-test passes.
-/

namespace Sys2Proof.Machine

/-! ### A self-test inside a command -/

section
variable (s : State) (evs : List Event) (p x : Nat) (q : Sequencer)

/-- The samples of a self-test are read from the device at its transfers. -/
theorem afterBus_sampleOK (delta j : Nat) : sampleOK (s.afterBus evs p x q) 0 delta j = sampleOK s x delta j := by
  simp [sampleOK, Nat.add_assoc]

theorem afterBus_mismatches (delta m : Nat) : mismatches (s.afterBus evs p x q) 0 delta m = mismatches s x delta m := by
  simp only [mismatches, afterBus_sampleOK]

theorem afterBus_sweepEnds (delta n m : Nat) : SweepEnds (s.afterBus evs p x q) 0 delta n m ↔ SweepEnds s x delta n m := by
  simp only [SweepEnds, afterBus_mismatches, afterBus_sampleOK]

theorem afterBus_sweepEvents (delta m : Nat) : sweepEvents (s.afterBus evs p x q) 0 delta m = sweepEvents s x delta m := by
  simp [sweepEvents, Nat.add_assoc]

end

/-- A sweep all of whose samples read back right goes to its end. -/
theorem SweepEnds.eq_of_sweepOK {s : State} {k delta n m : Nat} (h : SweepEnds s k delta n m)
    (hok : sweepOK s k delta n = true) : m = n := by
  have hzero := h.mismatches_eq_zero_iff.mpr hok
  obtain ⟨-, ⟨hmn, -⟩ | ⟨-, htwenty, -⟩⟩ := h
  · exact hmn
  · omega

/-- A sweep with a sample that reads back wrong makes a sample. -/
theorem SweepEnds.pos_of_not_sweepOK {s : State} {k delta n m : Nat} (h : SweepEnds s k delta n m)
    (hbad : sweepOK s k delta n = false) : 0 < m := by
  by_contra hzero
  obtain rfl : m = 0 := Nat.eq_zero_of_not_pos hzero
  have hok := h.mismatches_eq_zero_iff.mp rfl
  rw [hbad] at hok
  exact absurd hok Bool.false_ne_true

section
variable {s : State} (b : BusMode) (evs : List Event) (p x : Nat) (q : Sequencer) (delta : Nat)
variable (hb : s.busy = true) (ht : s.todo = [])
include hb ht

theorem selfTest_onBus_eq (hr : s.resetScript = []) :
    selfTest delta (s.onBus b evs p x q) =
      sweepLoop delta s.cfg.sweepEnd (s.onBus b evs p x { q with mism := 0, swi := 0 }) := by
  have hinit : (s.onBus b evs p x q).runPrim .sweepInit = s.onBus b evs p x { q with mism := 0, swi := 0 } :=
    onBus_runPrim _ _ _ _ _ hb ht hr .sweepInit
  rw [selfTest, hinit]
  exact runAs_now (s.onBus b evs p x _) _ _ hb ht hr

/-- Where a self-test makes a sample, the transaction of the sample sets the mode, whatever it was. -/
theorem selfTest_onBus_mode (hr : s.resetScript = []) (hsweep : 0 < s.cfg.sweepEnd) :
    selfTest delta (s.onBus b evs p x q) = selfTest delta (s.onBus .idle evs p x q) := by
  obtain ⟨n, hn⟩ := Nat.exists_eq_add_one_of_ne_zero (Nat.ne_of_gt hsweep)
  obtain ⟨ls, hls⟩ : ∃ ls, sampleLines s.cfg (BitVec.ofNat 16 0) delta = .openBus .ctrl :: ls := ⟨_, rfl⟩
  have hloop : ∀ c, sweepLoop delta (n + 1) (s.onBus c evs p x { q with mism := 0, swi := 0 }) =
      ((s.onBus (.active .ctrl) (evs ++ [.opened .ctrl]) p x { q with mism := 0, swi := 0 }).runPrims ls).runAs
        (.sweep n delta) (sweepLoop delta n) := by
    intro c
    have hgo : sweepLoop delta (n + 1) (s.onBus c evs p x { q with mism := 0, swi := 0 }) =
        ((s.onBus c evs p x { q with mism := 0, swi := 0 }).runPrims
          (sampleLines s.cfg (BitVec.ofNat 16 0) delta)).runAs (.sweep n delta) (sweepLoop delta n) :=
      if_pos ⟨hsweep, Nat.zero_lt_succ 19⟩
    rw [hgo, hls, runPrims_cons, onBus_openBus c evs p x _ hb ht hr .ctrl]
  rw [selfTest_onBus_eq b evs p x q delta hb ht hr, selfTest_onBus_eq .idle evs p x q delta hb ht hr, hn, hloop, hloop]

/-- A self-test inside a command, against a ready device: the samples up to where the sweep ends. -/
theorem selfTest_onBus (hδ : 0 < delta) (hd : DeviceReady s (p + 6 * sampleCount s.cfg delta)) :
    ∃ m b' q', SweepEnds s x delta (sampleCount s.cfg delta) m ∧ (0 < m → b' = .idle) ∧
      selfTest delta (s.onBus b evs p x q) =
        s.onBus b' (evs ++ sweepEvents s x delta m) (p + 6 * m) (x + 12 * m) q' ∧
      q'.mism = mismatches s x delta m ∧ q'.absent = q.absent ∧ q'.lowOK = q.lowOK := by
  by_cases hsweep : 0 < s.cfg.sweepEnd
  · obtain ⟨m, hends, hswept⟩ := selfTest_ready (u := s.afterBus evs p x q) hb ht rfl hδ (hd.afterBus evs x q)
    refine ⟨m, .idle, _, (afterBus_sweepEnds s evs p x q _ _ _).mp hends, fun _ => rfl, ?_,
      hswept.mism.trans (afterBus_mismatches s evs p x q delta m), hswept.absent, hswept.lowOK⟩
    rw [selfTest_onBus_mode b evs p x q delta hb ht hd.1 hsweep]
    have hstate := hswept.state
    rwa [afterBus_afterBus, afterBus_sweepEvents] at hstate
  · have hnone : s.cfg.sweepEnd = 0 := Nat.eq_zero_of_not_pos hsweep
    have hcount : sampleCount s.cfg delta = 0 := by
      rw [sampleCount, hnone]
      exact Nat.div_eq_of_lt (by omega)
    rw [selfTest_onBus_eq b evs p x q delta hb ht hd.1, hnone, hcount]
    exact ⟨0, b, { q with mism := 0, swi := 0 }, ⟨le_rfl, .inl ⟨rfl, Nat.zero_lt_succ 19⟩⟩, fun h => absurd h (Nat.lt_irrefl 0),
      congrArg (fun es => s.onBus b es p x { q with mism := 0, swi := 0 }) (List.append_nil evs).symm, rfl, rfl, rfl⟩

end

/-! ### The degraded ends (R241) -/

/-- The value of BEGIN as a number (R242). -/
theorem bringUpValue_eq (q : Sequencer) :
    q.bringUpValue = (if q.absent then 4 else 0) + (if q.highOK then 2 else 0) + (if q.lowOK then 1 else 0) := by
  unfold Sequencer.bringUpValue
  cases q.absent <;> cases q.highOK <;> cases q.lowOK <;> decide

/-- The lines of BEGIN after the low-speed self-test. -/
def afterLowTest : List Task := lines [.judgeLow] ++ [.bringUpChain] ++ lines [.becomeReady, .answer .bringUp]

/-- The low-speed self-test, or the pull-up in its place, is the first loop after BEGIN's sample. -/
theorem exec_begin_lowTest {s : State} (hr : s.resetScript = []) :
    exec .begin s = .next ((lowTest s.begunPlayback).runTasks afterLowTest) := by
  rw [exec_begin_eq s hr]
  exact congrArg (fun u : State => Host.Outcome.next (u.runTasks afterLowTest)) (runAs_now s.begunPlayback _ _ rfl rfl hr)

/-- Where the low-speed self-test was skipped or has failed, BEGIN sends nothing more. -/
theorem runTasks_afterLowTest_of_bad {u : State} (hb : u.busy = true) (ht : u.todo = []) (hr : u.resetScript = [])
    (hbad : (!u.seq.absent && decide (u.seq.mism = 0)) = false) :
    u.runTasks afterLowTest =
      State.respond { u with degraded := true, ready := true, seq := { u.seq with lowOK := false, highOK := false } } .ok
        (Sequencer.bringUpValue { u.seq with lowOK := false, highOK := false }) [] := by
  have hjudge : u.runPrim .judgeLow = { u with seq := { u.seq with lowOK := false } } := by
    rw [runPrim_now u .judgeLow hb ht hr, ← hbad]
    rfl
  have hchain : State.runAs .bringUpChain bringUpChain { u with seq := { u.seq with lowOK := false } } =
      { u with degraded := true, seq := { u.seq with lowOK := false, highOK := false } } :=
    (runAs_now { u with seq := { u.seq with lowOK := false } } _ _ hb ht hr).trans
      (runPrim_now { u with seq := { u.seq with lowOK := false } } .degrade hb ht hr)
  have hready := runPrim_now { u with degraded := true, seq := { u.seq with lowOK := false, highOK := false } } .becomeReady
    hb ht hr
  simp only [afterLowTest, runTasks_append, runTasks_lines, runPrims_cons, runPrims_nil]
  rw [hjudge]
  refine (congrArg (State.runPrims · [.becomeReady, .answer .bringUp]) hchain).trans ?_
  refine (congrArg (State.runPrims · [.answer .bringUp]) hready).trans ?_
  exact runPrim_now (Prim.run .becomeReady _) (.answer .bringUp) hb ht hr

/-- Settles O43: the pull-up goes on, and BEGIN ends degraded. -/
theorem beginWithoutReadyLineIsDegraded : Obligations.BeginWithoutReadyLineIsDegraded := by
  intro s hr hpoll
  have hlow : lowTest s.begunPlayback =
      State.onBus { s.created.accept with rdyPull := true } s.busMode (beginEvents s false ++ [.pullupOn]) 1 0
        { s.seq with absent := true } := by
    have hpull := runPrim_now s.begunPlayback (.setPullup true) rfl rfl hr
    have habsent : s.begunPlayback.seq.absent = true := by simp [State.begunPlayback, hpoll]
    rw [lowTest, if_pos habsent, hpull, begunPlayback_eq_onBus, hpoll]
    simp [Prim.run, State.setPullup, State.onBus, State.afterBus, State.created, State.accept]
  have hend := runTasks_afterLowTest_of_bad (u := State.onBus { s.created.accept with rdyPull := true } s.busMode
    (beginEvents s false ++ [.pullupOn]) 1 0 { s.seq with absent := true }) rfl rfl hr rfl
  have hvalue : ∀ q : Sequencer, Sequencer.bringUpValue { q with absent := true, lowOK := false, highOK := false } = 4 :=
    fun q => bringUpValue_eq { q with absent := true, lowOK := false, highOK := false }
  have hexec := exec_begin_lowTest hr
  rw [hlow, hend, onBus_seq, hvalue] at hexec
  refine ⟨_, hexec, ?_, rfl, ?_⟩
  · exact { sameRegisters_accept_respond { s.created with rdyPull := true, degraded := true, ready := true } .ok 4 [] with }
  · exact { ended_afterBus_respond s.created (beginEvents s false ++ [Event.pullupOn]) 1 0 s.seq .ok 4 [] with }

/-! ### The bring-up (R239, R240, R242) -/

/-- The sequencing state after the bring-up: `highOK` is the result of the high-speed self-test, and `v` was read last. -/
def Sequencer.broughtUp (q : Sequencer) (highOK : Bool) (v : Half) : Sequencer :=
  Sequencer.received { q with highOK := highOK } v

section
variable {s : State} (b : BusMode) (evs : List Event) (p x : Nat) (q : Sequencer)
variable (hb : s.busy = true) (ht : s.todo = [])
include hb ht

/-- The three configuration writes, the speed raised before the last. -/
theorem onBus_runPrims_configLines (hd : DeviceReady s (p + 6)) :
    (s.onBus b evs p x q).runPrims (configLines s.cfg) =
      State.afterBus { s with busSpd := .high } (evs ++ configEvents s x) (p + 6) (x + 12) q.waited := by
  have hspeed : ∀ es k q', (s.afterBus es k (x + 8) q').runPrims [.setSpeed .high] =
      State.onBus { s with busSpd := .high } .idle (es ++ [.speed .high]) k (x + 8) q' := fun es k q' =>
    (onBus_runPrim .idle es k (x + 8) q' hb ht hd.1 (.setSpeed .high)).trans
      (onBus_emit { s with busSpd := .high } .idle es k (x + 8) q' (.speed .high))
  have hlast := onBus_runPrims_regWriteLines (s := { s with busSpd := .high }) .idle
    (evs ++ writeEvents s x s.cfg.regSrate s.cfg.srateInit ++ writeEvents s (x + 4) s.cfg.regClock s.cfg.clockInit ++
      [.speed .high]) (p + 4) (x + 8) q.waited hb ht s.cfg.regMode s.cfg.modeInit hd
  rw [configLines, runPrims_append, runPrims_append, runPrims_append,
    onBus_runPrims_regWriteLines b evs p x q hb ht _ _ (hd.mono (by omega)),
    afterBus_runPrims_regWriteLines _ _ _ _ hb ht _ _ (hd.mono (by omega)), hspeed]
  refine hlast.trans ?_
  simp only [configEvents, List.append_assoc]
  rfl

/-- After the high-speed self-test: its result is recorded, and the fill byte is read and kept. -/
theorem onBus_runPrims_keepFill (hd : DeviceReady s (p + 4)) :
    (s.onBus b evs p x q).runPrims ([.judgeHigh] ++ wramReadLines s.cfg.fillAddr ++ [.keepFill]) =
      State.afterBus
        { s with hsFail := s.hsFail || decide (q.mism ≠ 0), fill := loByte (readAt s (x + 4)) }
        (evs ++ wramReadEvents s x s.cfg.fillAddr) (p + 4) (x + 8)
        (q.broughtUp (decide (q.mism = 0)) (readAt s (x + 4))) := by
  have hjudge : (s.onBus b evs p x q).runPrims [.judgeHigh] =
      State.onBus { s with hsFail := s.hsFail || decide (q.mism ≠ 0) } b evs p x { q with highOK := decide (q.mism = 0) } :=
    onBus_runPrim b evs p x q hb ht hd.1 .judgeHigh
  have hread := onBus_runPrims_wramReadLines (s := { s with hsFail := s.hsFail || decide (q.mism ≠ 0) }) b evs p x
    { q with highOK := decide (q.mism = 0) } hb ht s.cfg.fillAddr hd
  rw [runPrims_append, runPrims_append, hjudge]
  refine (congrArg (State.runPrims · [.keepFill]) hread).trans ?_
  exact onBus_runPrim (s := { s with hsFail := s.hsFail || decide (q.mism ≠ 0) }) .idle _ _ _ _ hb ht hd.1 .keepFill

end

/-- The state of BEGIN after its bring-up, `fill` the byte kept and `failed` the result of the high-speed self-test. -/
def State.broughtUp (s : State) (fill : Byte) (failed : Bool) : State :=
  { s.created with fill := fill, busSpd := .high, ready := true, hsFail := failed }

/-- The events of a BEGIN that brings the device up, its high-speed self-test ending after `m` samples. -/
def bringUpEvents (s : State) (m : Nat) : List Event :=
  beginEvents s true ++ sweepEvents s 0 300 (sampleCount s.cfg 300) ++ configEvents s (12 * sampleCount s.cfg 300) ++
    sweepEvents s (12 * sampleCount s.cfg 300 + 12) 3 m ++
    wramReadEvents s (12 * sampleCount s.cfg 300 + 12 + 12 * m) s.cfg.fillAddr

/-- BEGIN with the ready line high, up to the end of its low-speed self-test. -/
theorem lowTest_begunPlayback {s : State} (hd : DeviceReady s (1 + 6 * sampleCount s.cfg 300)) :
    ∃ m b q, SweepEnds s 0 300 (sampleCount s.cfg 300) m ∧ (0 < m → b = .idle) ∧
      lowTest s.begunPlayback =
        s.created.accept.onBus b (beginEvents s true ++ sweepEvents s 0 300 m) (1 + 6 * m) (12 * m) q ∧
      q.mism = mismatches s 0 300 m ∧ q.absent = false := by
  have hpoll : s.pollAt 0 = true := hd.2 0 (by omega)
  obtain ⟨m, b, q, hends, hidle, htest, hmism, habsent, -⟩ := selfTest_onBus (s := s.created.accept) s.busMode
    (beginEvents s true) 1 0 { s.seq with absent := false } 300 rfl rfl (by decide) hd
  have hpresent : ¬ s.begunPlayback.seq.absent = true := by simp [State.begunPlayback, hpoll]
  refine ⟨m, b, q, hends, hidle, ?_, hmism, habsent⟩
  rw [lowTest, if_neg hpresent, begunPlayback_eq_onBus, hpoll]
  rw [Nat.zero_add] at htest
  exact htest

/-- Settles O44: a failed low-speed self-test has made samples, after which BEGIN ends degraded. -/
theorem beginFailingAtLowSpeedIsDegraded : Obligations.BeginFailingAtLowSpeedIsDegraded := by
  intro s hd hbad
  obtain ⟨m, b, q, hends, hidle, hlow, hmism, habsent⟩ := lowTest_begunPlayback hd
  obtain rfl := hidle (hends.pos_of_not_sweepOK hbad)
  have hne : q.mism ≠ 0 := by
    rw [hmism, ne_eq, hends.mismatches_eq_zero_iff, hbad]
    exact Bool.false_ne_true
  have hjudged : (!q.absent && decide (q.mism = 0)) = false := by simp [hne]
  have hend := runTasks_afterLowTest_of_bad (u := s.created.accept.onBus .idle
    (beginEvents s true ++ sweepEvents s 0 300 m) (1 + 6 * m) (12 * m) q) rfl rfl hd.1 hjudged
  have hvalue : Sequencer.bringUpValue { q with lowOK := false, highOK := false } = 0 := by
    rw [bringUpValue_eq]
    simp only [habsent]
    rfl
  have hexec := exec_begin_lowTest hd.1
  rw [hlow, hend, onBus_seq, hvalue] at hexec
  refine ⟨_, m, hexec, hends, ?_, rfl, ?_⟩
  · exact { sameRegisters_accept_respond { s.created with degraded := true, ready := true } .ok 0 [] with }
  · exact { ended_afterBus_respond s.created (beginEvents s true ++ sweepEvents s 0 300 m) (1 + 6 * m) (12 * m) q .ok 0
      [] with }

theorem bringUpChain_of_ok {u : State} (h : u.seq.lowOK = true) :
    bringUpChain u = (selfTest 3 (u.runPrims (configLines u.cfg))).runPrims
      ([.judgeHigh] ++ wramReadLines u.cfg.fillAddr ++ [.keepFill]) := if_pos h

/-- The bring-up against a ready device: the configuration writes, the high-speed self-test, and the fill byte. -/
theorem bringUpChain_ready {s : State} (b : BusMode) (evs : List Event) (p x : Nat) (q : Sequencer) (hb : s.busy = true)
    (ht : s.todo = []) (habsent : q.absent = false) (hlow : q.lowOK = true)
    (hd : DeviceReady s (p + 6 + 6 * sampleCount s.cfg 3 + 4)) :
    ∃ m q', SweepEnds s (x + 12) 3 (sampleCount s.cfg 3) m ∧
      bringUpChain (s.onBus b evs p x q) =
        State.afterBus
          { s with
            busSpd := .high, hsFail := s.hsFail || !sweepOK s (x + 12) 3 (sampleCount s.cfg 3)
            fill := loByte (readAt s (x + 12 + 12 * m + 4)) }
          (evs ++ configEvents s x ++ sweepEvents s (x + 12) 3 m ++ wramReadEvents s (x + 12 + 12 * m) s.cfg.fillAddr)
          (p + 6 + 6 * m + 4) (x + 12 + 12 * m + 8) q' ∧
      q'.bringUpValue = if sweepOK s (x + 12) 3 (sampleCount s.cfg 3) then 3 else 1 := by
  have hconfig : (s.onBus b evs p x q).runPrims (configLines s.cfg) =
      State.onBus { s with busSpd := .high } .idle (evs ++ configEvents s x) (p + 6) (x + 12) q.waited :=
    onBus_runPrims_configLines b evs p x q hb ht (hd.mono (by omega))
  obtain ⟨m, b', r, hends, -, htest, hmism, habsent', hlow'⟩ := selfTest_onBus (s := { s with busSpd := .high }) .idle
    (evs ++ configEvents s x) (p + 6) (x + 12) q.waited 3 hb ht (by decide) (hd.mono (Nat.le_add_right _ 4))
  have hle : m ≤ sampleCount s.cfg 3 := hends.1
  have hkeep := onBus_runPrims_keepFill (s := { s with busSpd := .high }) b'
    (evs ++ configEvents s x ++ sweepEvents s (x + 12) 3 m) (p + 6 + 6 * m) (x + 12 + 12 * m) r hb ht (hd.mono (by omega))
  have hiff : r.mism = 0 ↔ sweepOK s (x + 12) 3 (sampleCount s.cfg 3) = true := hmism ▸ hends.mismatches_eq_zero_iff
  have hhigh : decide (r.mism = 0) = sweepOK s (x + 12) 3 (sampleCount s.cfg 3) := by
    simp only [hiff, Bool.decide_eq_true]
  have hfailed : decide (r.mism ≠ 0) = !sweepOK s (x + 12) 3 (sampleCount s.cfg 3) := by rw [← hhigh, decide_not]
  rw [hfailed, hhigh] at hkeep
  refine ⟨m, r.broughtUp (sweepOK s (x + 12) 3 (sampleCount s.cfg 3)) (readAt s (x + 12 + 12 * m + 4)), hends, ?_, ?_⟩
  · rw [bringUpChain_of_ok hlow, onBus_cfg, hconfig, htest]
    exact hkeep
  · have hr : r.absent = false ∧ r.lowOK = true := ⟨habsent'.trans habsent, hlow'.trans hlow⟩
    rw [bringUpValue_eq]
    simp only [Sequencer.broughtUp, Sequencer.received, hr]
    cases sweepOK s (x + 12) 3 (sampleCount s.cfg 3) <;> rfl

/-- The lines of BEGIN after a low-speed self-test that passed, against a ready device. -/
theorem runTasks_afterLowTest_of_ok {s : State} (b : BusMode) (evs : List Event) (p x : Nat) (q : Sequencer)
    (habsent : q.absent = false) (hmism : q.mism = 0)
    (hd : DeviceReady s (p + 6 + 6 * sampleCount s.cfg 3 + 4)) :
    ∃ m q', SweepEnds s (x + 12) 3 (sampleCount s.cfg 3) m ∧
      (s.created.accept.onBus b evs p x q).runTasks afterLowTest =
        ((s.broughtUp (loByte (readAt s (x + 12 + 12 * m + 4))) (!sweepOK s (x + 12) 3 (sampleCount s.cfg 3))).accept.afterBus
          (evs ++ configEvents s x ++ sweepEvents s (x + 12) 3 m ++ wramReadEvents s (x + 12 + 12 * m) s.cfg.fillAddr)
          (p + 6 + 6 * m + 4) (x + 12 + 12 * m + 8) q').respond .ok
          (if sweepOK s (x + 12) 3 (sampleCount s.cfg 3) then 3 else 1) [] := by
  have hlowOK : (!q.absent && decide (q.mism = 0)) = true := by simp [habsent, hmism]
  have hjudge : (s.created.accept.onBus b evs p x q).runPrim .judgeLow =
      s.created.accept.onBus b evs p x { q with lowOK := true } := by
    rw [onBus_runPrim (s := s.created.accept) b evs p x q rfl rfl hd.1 .judgeLow, ← hlowOK]
    rfl
  obtain ⟨m, q', hends, hup, hvalue⟩ := bringUpChain_ready (s := s.created.accept) b evs p x { q with lowOK := true } rfl rfl
    habsent rfl hd
  have hchain := (runAs_now (s.created.accept.onBus b evs p x { q with lowOK := true }) .bringUpChain bringUpChain rfl rfl
    hd.1).trans hup
  refine ⟨m, q', hends, ?_⟩
  simp only [afterLowTest, runTasks_append, runTasks_lines, runPrims_cons, runPrims_nil]
  rw [hjudge]
  refine (congrArg (State.runPrims · [.becomeReady, .answer .bringUp]) hchain).trans ?_
  refine (congrArg (State.runPrims · [.answer .bringUp])
    (onBus_runPrim (s := State.accept { s.broughtUp _ _ with ready := false }) .idle _ _ _ _ rfl rfl hd.1
      .becomeReady)).trans ?_
  refine (accept_afterBus_answer (s.broughtUp _ _) _ _ _ _ .bringUp hd.1).trans ?_
  exact congrArg (State.respond _ .ok · []) hvalue

/-- BEGIN whose low-speed self-test passes, against a ready device. -/
theorem exec_begin_bringsUp {s : State}
    (hd : DeviceReady s (1 + 6 * sampleCount s.cfg 300 + 6 + 6 * sampleCount s.cfg 3 + 4))
    (hlow : sweepOK s 0 300 (sampleCount s.cfg 300) = true) :
    ∃ t m, exec .begin s = .next t ∧
      SweepEnds s (12 * sampleCount s.cfg 300 + 12) 3 (sampleCount s.cfg 3) m ∧
      SameRegisters (s.broughtUp (loByte (readAt s (12 * sampleCount s.cfg 300 + 12 + 12 * m + 4)))
        (!sweepOK s (12 * sampleCount s.cfg 300 + 12) 3 (sampleCount s.cfg 3))) t ∧ t.busMode = .idle ∧
      Ended s t
        ⟨.ok, if sweepOK s (12 * sampleCount s.cfg 300 + 12) 3 (sampleCount s.cfg 3) then 3 else 1, []⟩
        (bringUpEvents s m) (1 + 6 * sampleCount s.cfg 300 + 6 + 6 * m + 4)
        (12 * sampleCount s.cfg 300 + 12 + 12 * m + 8) := by
  obtain ⟨n, b, q, hends, -, htest, hmism, habsent⟩ := lowTest_begunPlayback (hd.mono (by omega))
  obtain rfl : n = sampleCount s.cfg 300 := hends.eq_of_sweepOK hlow
  have hzero : q.mism = 0 := hmism.trans (hends.mismatches_eq_zero_iff.mpr hlow)
  obtain ⟨m, q', hends', hrun⟩ := runTasks_afterLowTest_of_ok b
    (beginEvents s true ++ sweepEvents s 0 300 (sampleCount s.cfg 300)) (1 + 6 * sampleCount s.cfg 300)
    (12 * sampleCount s.cfg 300) q habsent hzero hd
  have hexec := exec_begin_lowTest hd.1
  rw [htest, hrun] at hexec
  exact ⟨_, m, hexec, hends', sameRegisters_afterBus_respond _ _ _ _ _ _ _ _, rfl,
    { ended_afterBus_respond (s.broughtUp _ _) (bringUpEvents s m) _ _ q' .ok _ [] with }⟩

/-- Settles O45: a high-speed self-test that passes goes to the end of its sweep. -/
theorem beginBringsTheDeviceUp : Obligations.BeginBringsTheDeviceUp := by
  intro s hd hlow hhigh
  obtain ⟨t, m, hexec, hends, hsame, hidle, hended⟩ := exec_begin_bringsUp hd hlow
  obtain rfl : m = sampleCount s.cfg 3 := hends.eq_of_sweepOK hhigh
  rw [hhigh] at hsame hended
  exact ⟨t, hexec, { hsame with }, hidle, hended⟩

/-- Settles O46: a high-speed self-test that fails is recorded, and the fill byte is read after it. -/
theorem beginFailingAtHighSpeedGoesOn : Obligations.BeginFailingAtHighSpeedGoesOn := by
  intro s hd hlow hhigh
  obtain ⟨t, m, hexec, hends, hsame, hidle, hended⟩ := exec_begin_bringsUp hd hlow
  rw [hhigh] at hsame hended
  exact ⟨t, m, hexec, hends, { hsame with }, hidle, hended⟩

end Sys2Proof.Machine
end
